-- ==== Sys2Proof/Word.lean ====
section
/-! DEFINITION. The bit vectors of the J2208: what its buses, records and frames carry as bits. -/
namespace Sys2Proof

/-- One byte of the persistent memory or of a management frame. -/
abbrev Byte := BitVec 8

/-- One 32-bit word: a bus word, an epoch number, a sequence number or a check code. -/
abbrev Word := BitVec 32

end Sys2Proof
end

