-- ==== Sys2Proof/Config.lean ====
section
/-! DEFINITION. The free values of the model: what the spec leaves open while the part goes on.
They have no body, so no proof can rest on what they are; State's field `free` indexes them. -/
namespace Sys2Proof

/-- Which byte lanes of the word in progress a cut-off memory write has changed: R172 allows any
mixture of old and new bytes (FREE VALUE, log 7). -/
opaque Config.tornLanes : Nat → BitVec 4

/-- Which of two things that come together at one event is taken first, where the spec allows either
order: two retaken decisions (R70), a retaken decision and a later event (R17, R70, R151), a request and a
completion at the Memory Arbiter, and requests that come together at an idle memory port (R81, R174) (FREE VALUE, log
8, log 29, log 31). -/
opaque Config.worldOrder : Nat → Bool

end Sys2Proof
end

