-- ==== Sys2Proof/Syntax.lean ====
section
/-! DEFINITION. The commands of the J2208: one constructor of `Instr` per row of
spec/opcode_table.json, in the table's order. The table gives no operands; each constructor carries
what its rule says the event brings from outside. -/
namespace Sys2Proof

/-- The two host ports (R60). -/
inductive Port
  | a | b
  deriving DecidableEq, Repr

/-- What a dispatched management frame carries besides its command code (R156): the argument bytes,
whose number is the frame's length byte, and the CRC-8 byte received. -/
structure FrameTail where
  args : List Byte
  crc  : Byte
  deriving DecidableEq, Repr

/-- A transaction as a master drives it on the host bus (R168): the two strobes, the 22-bit word
address, the burst-length code, the byte enables (one set per word of a write; one set with a read)
and the data words of a write. -/
structure Presentation where
  rd      : Bool
  wr      : Bool
  word    : BitVec 22
  bl      : BitVec 3
  enables : List (BitVec 4)
  data    : List Word
  deriving DecidableEq, Repr

/-- The commands: what can happen to the part, each row one whole and indivisible step. `cut` is how
many words of the memory write a reset cuts off the memory had marked done (R172); `msize` the level
of the straps (R43); `merr` whether the read ended with MERR (R173). -/
inductive Instr
  | powerOnResetStart (cut : Nat)
  | powerOnResetEnd (msize : BitVec 3)
  | resetPinLow (cut : Nat)
  | resetPinHigh (msize : BitVec 3)
  | pfailFall
  | pfailRise
  | frameOpen
  | frameClose (cut : Nat)
  | status (f : FrameTail)
  | commit (f : FrameTail)
  | abort (f : FrameTail)
  | format (f : FrameTail)
  | apply (f : FrameTail)
  | stageWrite (f : FrameTail)
  | stageRead (f : FrameTail)
  | validate (f : FrameTail)
  | releaseFence (f : FrameTail)
  | readReport (f : FrameTail)
  | readLastOp (f : FrameTail)
  | readFault (f : FrameTail)
  | clearFault (f : FrameTail)
  | ackAttention (f : FrameTail)
  | setAttentionMask (f : FrameTail)
  | softReset (f : FrameTail)
  | unknownCommand (code : Byte) (f : FrameTail)
  | hostPresentation (p : Port) (pres : Presentation)
  | policyDecision (p : Port)
  | hostResponse (p : Port)
  | hostReadComplete (p : Port) (merr : Bool)
  | hostWriteComplete (p : Port)
  | captureTake
  | lineReadComplete (merr : Bool)
  | slotReservation
  | recordWriteComplete
  | filterInsertion
  | anchorReadFirstPartComplete (merr : Bool)
  | anchorReadComplete (merr : Bool)
  | anchorWriteFirstPartComplete
  | anchorWriteComplete
  | scrubWriteComplete
  | scanReadComplete (merr : Bool)
  | lookAheadReadComplete (merr : Bool)
  | rollbackReadComplete (merr : Bool)
  | rollbackLineWriteComplete
  | responseSentInFull
  deriving DecidableEq, Repr

end Sys2Proof
end

