-- ==== Sys2Proof/WellFormed.lean ====
section
/-! DEFINITION. Which terms of `Instr` the outside world can send at all. The meanings are total and
do not need these checks; they say what the spec's interfaces can carry. -/
namespace Sys2Proof

/-- The length byte of a frame counts 0 to 255 argument bytes (R156). -/
def FrameTail.wf (f : FrameTail) : Bool := decide (f.args.length ≤ 255)

/-- A whole presentation (R168, R170): at least one strobe; a write brings one set of byte enables and
one data word for each word of the burst; a transaction with the read strobe brings one set of byte
enables and no data. -/
def Presentation.wf (q : Presentation) : Bool :=
  if q.rd then decide (q.enables.length = 1) && decide (q.data = [])
  else q.wr && decide (q.enables.length = q.bl.toNat + 1) && decide (q.data.length = q.bl.toNat + 1)

/-- A memory operation has at most 20 words (R172), so a cut marks at most 20 of them done. -/
def cutWf (cut : Nat) : Bool := decide (cut ≤ 20)

/-- Well-formed commands. -/
def Instr.wf : Instr → Bool
  | .powerOnResetStart cut => cutWf cut
  | .powerOnResetEnd _ => true
  | .resetPinLow cut => cutWf cut
  | .resetPinHigh _ => true
  | .pfailFall => true
  | .pfailRise => true
  | .frameOpen => true
  | .frameClose cut => cutWf cut
  | .status f => f.wf
  | .commit f => f.wf
  | .abort f => f.wf
  | .format f => f.wf
  | .apply f => f.wf
  | .stageWrite f => f.wf
  | .stageRead f => f.wf
  | .validate f => f.wf
  | .releaseFence f => f.wf
  | .readReport f => f.wf
  | .readLastOp f => f.wf
  | .readFault f => f.wf
  | .clearFault f => f.wf
  | .ackAttention f => f.wf
  | .setAttentionMask f => f.wf
  | .softReset f => f.wf
  | .unknownCommand _ f => f.wf
  | .hostPresentation _ q => q.wf
  | .policyDecision _ => true
  | .hostResponse _ => true
  | .hostReadComplete _ _ => true
  | .hostWriteComplete _ => true
  | .captureTake => true
  | .lineReadComplete _ => true
  | .slotReservation => true
  | .recordWriteComplete => true
  | .filterInsertion => true
  | .anchorReadFirstPartComplete _ => true
  | .anchorReadComplete _ => true
  | .anchorWriteFirstPartComplete => true
  | .anchorWriteComplete => true
  | .scrubWriteComplete => true
  | .scanReadComplete _ => true
  | .lookAheadReadComplete _ => true
  | .rollbackReadComplete _ => true
  | .rollbackLineWriteComplete => true
  | .responseSentInFull => true

end Sys2Proof
end

