-- ==== Sys2Proof/Decode.lean ====
section
/-! DEFINITION. The command a word spells by the bits of spec/opcode_table.json. Not one of its 45
rows gives bits ("fields" is empty in each and none has "fixed"), so no word spells a command. The
codes of the management frames are fields of a frame, not of the table: Machine/Codes.lean has them. -/
namespace Sys2Proof

/-- No row of the table gives bits: every word is refused. -/
def decodeTableWord (_nbits _w : Nat) : Option Instr := none

end Sys2Proof
end

