-- ==== Sys2Proof/Machine/Bytes.lean ====
section
/-! DEFINITION. Byte orders and the two CRCs (R176, R177). -/
namespace Sys2Proof.Machine

open Sys2Proof

/-- The `n` low bytes of `v`, least significant first: the order of slots and anchor copies (R176). -/
def leBytes : Nat → Nat → List Byte
  | 0, _ => []
  | n + 1, v => BitVec.ofNat 8 v :: leBytes n (v / 256)

/-- The number that bytes spell, least significant first (R176). -/
def fromLE : List Byte → Nat
  | [] => 0
  | b :: bs => b.toNat + 256 * fromLE bs

/-- The `n` low bytes of `v`, most significant first: the order of management frames (R177). -/
def beBytes (n v : Nat) : List Byte := (leBytes n v).reverse

/-- The number that bytes spell, most significant first (R177). -/
def fromBE (bs : List Byte) : Nat := fromLE bs.reverse

/-- `n` bytes from offset `k`. -/
def slice (bs : List Byte) (k n : Nat) : List Byte := (bs.drop k).take n

/-- One step of the CRC-32 register for one message bit, generator 0x04C11DB7 (R176). -/
def crc32Bit (reg : Word) (bit : Bool) : Word :=
  if reg.msb ^^ bit then (reg <<< 1) ^^^ 0x04C11DB7#32 else reg <<< 1

/-- A message byte enters the CRC-32 least significant bit first (R176). -/
def crc32Byte (reg : Word) (b : Byte) : Word :=
  (List.range 8).foldl (fun r i => crc32Bit r (b.getLsbD i)) reg

/-- The CRC-32 of slots and anchors: preset 0xFFFFFFFF, register reversed at the end, result XORed with
0xFFFFFFFF (R176). -/
def crc32 (bs : List Byte) : Word :=
  (bs.foldl crc32Byte 0xFFFFFFFF#32).reverse ^^^ 0xFFFFFFFF#32

/-- One step of the CRC-8 register, generator 0x07 (R177). -/
def crc8Bit (reg : Byte) (bit : Bool) : Byte :=
  if reg.msb ^^ bit then (reg <<< 1) ^^^ 0x07#8 else reg <<< 1

/-- A message byte enters the CRC-8 most significant bit first (R177). -/
def crc8Byte (reg : Byte) (b : Byte) : Byte :=
  (List.range 8).foldl (fun r i => crc8Bit r (b.getMsbD i)) reg

/-- The CRC-8 of management frames: preset 0x00, no reversal, no final XOR (R177). -/
def crc8 (bs : List Byte) : Byte := bs.foldl crc8Byte 0#8

end Sys2Proof.Machine
end

