-- ==== Sys2Proof/Machine/State.lean ====
section
/-! DEFINITION. Everything the spec gives the J2208 to hold, as plain data, block by block
(spec/00 section 0.3), the two ways a command could stop, and the state right after reset. -/
namespace Sys2Proof.Machine

open Sys2Proof

/-- No command of the J2208 stops the part: an error is an effect on State (a refusal reason, a result
code, a fault record, DAMAGED). No meaning raises a fault, so the type has no constructor. -/
inductive Fault
  deriving DecidableEq, Repr

/-- Raised by `exec` alone, for a command that has no meaning yet. -/
inductive Refusal
  /-- `exec` refuses a command that the model gives no meaning yet; safe, the run stops. -/
  | notModelled (mnemonic : String)
  deriving DecidableEq, Repr

/-! ## Journal Controller -/

/-- The eight journal states (spec/01 section 1.3). -/
inductive JournalState
  | recovering | unformatted | active | committing | applying | aborting | formatting | damaged
  deriving DecidableEq, Repr

/-- The access the host ports grant (R6). -/
inductive PathMode
  | opened | writeHold | readOnly | closed
  deriving DecidableEq, Repr

/-- The long operation in progress (R15). -/
inductive LongOp
  | none | recovery | commit | abort | format | apply
  deriving DecidableEq, Repr

/-- The steps of an operation (R98) and of recovery (R120); the names the two share are one. -/
inductive Step
  | anchorSearch | scanning | draining | rescanning | rollingBack | advancing | scrubbing
  | wrapAnchor | applyAnchor | firstAnchor | secondAnchor
  deriving DecidableEq, Repr

/-- Journal geometry: base line and slot count (R18). -/
structure Geometry where
  base  : Nat
  count : Nat
  deriving DecidableEq, Repr

/-- The classes of a slot (R24). -/
inductive SlotClass
  | unreadable | checkFailed | foreign | emptySlot | otherEpoch | current
  deriving DecidableEq, Repr

/-- Why a scan stopped (R126, R132). -/
inductive StopReason
  | none | endOfJournal | epochBoundary | tornTail | readError | damageDetected
  deriving DecidableEq, Repr

/-- The scan in progress (R125): its position, its look-ahead flag, and the line field of the slot that
waits for its look-ahead (the model's own, log 18). -/
structure Scan where
  pos       : Nat
  lookAhead : Bool
  line      : Nat
  deriving DecidableEq, Repr

/-- The rollback items (R98). -/
structure Rollback where
  pos     : Int
  applied : Nat
  lines   : List Nat
  further : Nat
  deriving DecidableEq, Repr

/-- How an operation ended (R112). -/
inductive OpResult
  | done | damaged | notEmpty
  deriving DecidableEq, Repr

/-- The last-operation record (R112). -/
structure LastOp where
  kind    : LongOp
  result  : OpResult
  before  : Word
  after   : Word
  applied : Nat
  lines   : List Nat
  further : Nat
  deriving DecidableEq, Repr

/-- The reset kinds as start causes (R118). -/
inductive StartCause
  | powerOn | resetPin | soft
  deriving DecidableEq, Repr

/-- The two anchor copies (R85). -/
inductive Copy
  | a | b
  deriving DecidableEq, Repr

/-- The phase field of an anchor (R95). -/
inductive Phase
  | opened | scrubbing
  deriving DecidableEq, Repr

/-- How a recovery ended (R9, R132). -/
inductive RecoveryOutcome
  | cleanStart | rolledBack | scrubResumed | unformatted | damaged
  deriving DecidableEq, Repr

/-- The recovery report, working (R120) and handed over (R132); `outcome` is filled at the completing
event, `cls` is absent for stop class NONE, `anchor` for anchor used NONE. -/
structure Report where
  cause   : StartCause
  anchor  : Option Copy
  seq     : Word
  epoch   : Word
  phase   : Phase
  scanned : Nat
  reason  : StopReason
  cls     : Option SlotClass
  stop    : Nat
  applied : Nat
  lines   : List Nat
  further : Nat
  outcome : Option RecoveryOutcome
  deriving DecidableEq, Repr

/-- What the Journal Controller holds (R3, R15, R18, R25, R98, R112, R120). -/
structure Journal where
  state    : JournalState
  op       : LongOp
  epoch    : Word
  fill     : Nat
  geom     : Option Geometry
  step     : Option Step
  drain    : List Port
  scan     : Option Scan
  scrub    : Option Nat
  rollback : Option Rollback
  lastOp   : Option LastOp
  working  : Option Report
  deriving DecidableEq, Repr

/-! ## Capture Filter and Capture Engine -/

/-- Tracked lines and SATURATED (R48). -/
structure Filter where
  lines     : List Nat
  saturated : Bool
  deriving DecidableEq, Repr

/-- An entry of the capture queue (R74). -/
structure Entry where
  port   : Port
  line   : Nat
  window : Nat
  deriving DecidableEq, Repr

/-- How far the Capture Engine is with its current entry (R75); `reserving` is the time between the
completed line read and the answer to the reservation request (R77, log 10). -/
inductive EnginePhase
  | hit
  | reading
  | reserving (image : List Byte)
  | writing (slot : Nat)
  | inserting (slot : Nat)
  | captured
  deriving DecidableEq, Repr

/-- The current entry and its phase (R75). -/
structure Current where
  entry : Entry
  phase : EnginePhase
  deriving DecidableEq, Repr

/-- The Capture Engine: its queue and its current entry (R74, R75). -/
structure Engine where
  queue   : List Entry
  current : Option Current
  deriving DecidableEq, Repr

/-! ## Configuration Store, Policy Decoder, Fence Unit -/

/-- The policies a line can resolve to outside the reserved area (spec/03 section 3.1). -/
inductive Policy
  | journaled | direct | guarded
  deriving DecidableEq, Repr

/-- A window entry (R35); its policy is absent when the entry is DISABLED. -/
structure Window where
  first  : Nat
  last   : Nat
  policy : Option Policy
  deriving DecidableEq, Repr

/-- What a fence does to host writes (R148). -/
inductive FenceAction
  | hold | refuse
  deriving DecidableEq, Repr

/-- How a fence ends (R148). -/
inductive FenceMode
  | level | latched
  deriving DecidableEq, Repr

/-- A configuration without its geometry (R135, R136): windows 0 to 7 and the settings. -/
structure Setup where
  windows : List Window
  default : Policy
  alert   : Nat
  action  : FenceAction
  mode    : FenceMode
  deriving DecidableEq, Repr

/-- The staging state (R135). -/
inductive Staging
  | draft | ready
  deriving DecidableEq, Repr

/-- The Configuration Store: active configuration, staging image and staging state (R135). -/
structure Store where
  geom       : Option Geometry
  active     : Setup
  stagedGeom : Geometry
  staged     : Setup
  staging    : Staging
  deriving DecidableEq, Repr

/-- The Policy Decoder's copy (R35, R37, R38): `extent` is the first and last line of the journal
extent, `anchorFirst` the first line of the anchor area. -/
structure Decoder where
  windows     : List Window
  default     : Policy
  extent      : Option (Nat × Nat)
  anchorFirst : Nat
  deriving DecidableEq, Repr

/-- What an address resolves to (R40). -/
inductive Resolution
  | reserved
  | covered (policy : Policy) (window : Nat)
  deriving DecidableEq, Repr

/-- The fence states (R148). -/
inductive FenceState
  | normal | fenced | latched
  deriving DecidableEq, Repr

/-- The Fence Unit (R148). -/
structure Fence where
  state  : FenceState
  action : FenceAction
  mode   : FenceMode
  deriving DecidableEq, Repr

/-! ## Anchor Unit -/

/-- The fields of an anchor copy but for signature and check code (R84). -/
structure Anchor where
  seq      : Word
  epoch    : Word
  phase    : Phase
  geom     : Geometry
  setup    : Setup
  memLines : Nat
  deriving DecidableEq, Repr

/-- What the Anchor Unit knows of a copy (R86). -/
inductive Validity
  | notRead | valid | invalid
  deriving DecidableEq, Repr

/-- The copy read or write under way, with its part (R85, R86): a read's second part holds the first
part's bytes and whether it ended with MERR; a write holds the new sequence number and, until its
second part is requested, the bytes of that part. -/
inductive AnchorOp
  | readFirst (c : Copy)
  | readSecond (c : Copy) (first : List Byte) (merr : Bool)
  | writeFirst (c : Copy) (seq : Word) (rest : List Byte)
  | writeSecond (c : Copy) (seq : Word)
  deriving DecidableEq, Repr

/-- The Anchor Unit (R86); `heldA` keeps the fields of a VALID copy A until the selection (R88). -/
structure Anchors where
  newest : Option Copy
  seq    : Word
  validA : Validity
  validB : Validity
  heldA  : Option Anchor
  op     : Option AnchorOp
  deriving DecidableEq, Repr

/-! ## Host ports and Attention Unit -/

/-- The stages of a host port (R60). -/
inductive Stage
  | idle | deciding | held | captureWait | inMemory | responding
  deriving DecidableEq, Repr

/-- Read or write (R60). -/
inductive Access
  | read | write
  deriving DecidableEq, Repr

/-- The refusal reasons (R72). -/
inductive Reason
  | malformed | outOfRange | pathClosed | reservedArea | guarded | damaged | fenceRefused
  | captureFailed | journalFull | memoryReadError
  deriving DecidableEq, Repr

/-- The transaction record (R60); `bothStrobes` marks the malformed form of R170, and `wasHeld` a write that has been
held, so that a decision it has yet to take is a retaken one (R69, R70; the model's own mark, log 31). -/
structure Txn where
  kind        : Access
  bothStrobes : Bool
  addr        : Nat
  len         : Nat
  enables     : List (BitVec 4)
  data        : List Word
  resolution  : Option Resolution
  reason      : Option Reason
  readData    : Option (List Word)
  wasHeld     : Bool
  deriving DecidableEq, Repr

/-- A response as the port gives it (R169): HA_ERR, and the words of a read. -/
structure BusResponse where
  err  : Bool
  data : List Word
  deriving DecidableEq, Repr

/-- A host port (R60); `bus` is the response given last (R169, the model's own latch, log 14). -/
structure HostPort where
  stage : Stage
  txn   : Option Txn
  bus   : Option BusResponse
  deriving DecidableEq, Repr

/-- The fault record (R73, R163). -/
structure FaultRecord where
  port    : Port
  kind    : Access
  addr    : Nat
  enables : BitVec 4
  len     : Nat
  reason  : Reason
  epoch   : Word
  deriving DecidableEq, Repr

/-- The Attention Unit (R163, R165): the two sets carry bit n of R177 for each cause. -/
structure Attention where
  pending : BitVec 6
  mask    : BitVec 6
  fault   : Option FaultRecord
  count   : Nat
  report  : Option Report
  deriving DecidableEq, Repr

/-! ## Management Port -/

/-- The phases of a frame (R156). -/
inductive FramePhase
  | receiving | responding | trailing | ignoring
  deriving DecidableEq, Repr

/-- The frame in progress (R156): the argument bytes kept (at most 40) and the CRC-8 computed, both
filled at the dispatch (log 9), the response bytes with the turnaround byte, and whether the frame
carried a SOFT_RESET answered OK (R164). -/
structure Frame where
  phase     : FramePhase
  kept      : List Byte
  crc       : Byte
  response  : List Byte
  softReset : Bool
  deriving DecidableEq, Repr

/-! ## Memory Arbiter and Memory Port -/

/-- The four requesters of the Memory Arbiter, in cycle order (R174). -/
inductive Requester
  | portA | portB | capture | journal
  deriving DecidableEq, Repr

/-- What a memory operation is for (R172, R85). -/
inductive Purpose
  | hostRead | hostWrite | lineRead | recordWrite | anchorReadFirst | anchorReadSecond
  | anchorWriteFirst | anchorWriteSecond | scrubWrite | scanRead | lookAheadRead | rollbackRead
  | lineWrite
  deriving DecidableEq, Repr

/-- One memory operation (R172): its first byte address, its number of words and, for a write, one
cell per byte: the byte to store, or none where the byte enable is deasserted. -/
structure MemOp where
  purpose : Purpose
  addr    : Nat
  words   : Nat
  cells   : List (Option Byte)
  deriving DecidableEq, Repr

/-- The Memory Arbiter (R174): grant pointer, one pending request per requester, and the operation in
progress at the memory port with its requester. -/
structure Arbiter where
  pointer : Requester
  a       : Option MemOp
  b       : Option MemOp
  capture : Option MemOp
  journal : Option MemOp
  current : Option (Requester × MemOp)
  deriving DecidableEq, Repr

/-! ## The whole part -/

/-- The levels of the inputs the part follows (R118, R148, R156, R171; log 13). -/
structure Pins where
  supplyLow : Bool
  resetLow  : Bool
  pfailLow  : Bool
  mcsLow    : Bool
  deriving DecidableEq, Repr

/-- The memory sizes of the straps (R43). -/
inductive MemSize
  | m1 | m2 | m4 | m8 | m16
  deriving DecidableEq, Repr

/-- The persistent memory: address and byte of every byte that does not read as an unlisted one does
(Machine/Memory.lean). -/
abbrev Mem := List Host.Cell

/-- All the J2208 holds, the memory behind it, and the commands that wait. -/
structure State where
  pins    : Pins
  memSize : MemSize
  cause   : StartCause
  jc      : Journal
  filter  : Filter
  engine  : Engine
  anchors : Anchors
  store   : Store
  decoder : Decoder
  fence   : Fence
  attn    : Attention
  frame   : Option Frame
  portA   : HostPort
  portB   : HostPort
  arb     : Arbiter
  mem     : Mem
  free    : Nat
  pending : List Instr
  deriving DecidableEq, Repr

/-! ## Named updates, one per field -/

def State.setPins (s : State) (x : Pins) : State := { s with pins := x }
def State.setMemSize (s : State) (x : MemSize) : State := { s with memSize := x }
def State.setCause (s : State) (x : StartCause) : State := { s with cause := x }
def State.setJc (s : State) (x : Journal) : State := { s with jc := x }
def State.setFilter (s : State) (x : Filter) : State := { s with filter := x }
def State.setEngine (s : State) (x : Engine) : State := { s with engine := x }
def State.setAnchors (s : State) (x : Anchors) : State := { s with anchors := x }
def State.setStore (s : State) (x : Store) : State := { s with store := x }
def State.setDecoder (s : State) (x : Decoder) : State := { s with decoder := x }
def State.setFence (s : State) (x : Fence) : State := { s with fence := x }
def State.setAttn (s : State) (x : Attention) : State := { s with attn := x }
def State.setFrame (s : State) (x : Option Frame) : State := { s with frame := x }
def State.setPortA (s : State) (x : HostPort) : State := { s with portA := x }
def State.setPortB (s : State) (x : HostPort) : State := { s with portB := x }
def State.setArb (s : State) (x : Arbiter) : State := { s with arb := x }
def State.setMem (s : State) (x : Mem) : State := { s with mem := x }
def State.setFree (s : State) (x : Nat) : State := { s with free := x }
def State.setPending (s : State) (x : List Instr) : State := { s with pending := x }

/-! ## Reset -/

/-- The setup of the reset configuration and of the UNFORMATTED defaults (R131, R135). -/
def Setup.reset : Setup where
  windows := List.replicate 8 ⟨0, 0, none⟩
  default := .direct
  alert   := 0
  action  := .hold
  mode    := .level

/-- The geometry of the UNFORMATTED defaults (R131). -/
def Geometry.unformatted : Geometry := ⟨0, 16⟩

/-- The working report at the start of recovery: the cause filled, the rest empty (R120). -/
def Report.start (c : StartCause) : Report where
  cause   := c
  anchor  := none
  seq     := 0
  epoch   := 0
  phase   := .opened
  scanned := 0
  reason  := .none
  cls     := none
  stop    := 0
  applied := 0
  lines   := []
  further := 0
  outcome := none

/-- The part right after a power-on reset has ended (R118, R119), with RESET#, PFAIL# and MCS# high and
a 16 MiB memory strapped (DESIGN CHOICE, log 3): recovery has begun and the first part of the read of
anchor copy A, at memory size − 256, is in progress (R85, R88, R118). -/
def State.reset : State where
  pins    := ⟨false, false, false, false⟩
  memSize := .m16
  cause   := .powerOn
  jc      :=
    { state := .recovering, op := .recovery, epoch := 0, fill := 0, geom := none,
      step := some .anchorSearch, drain := [], scan := none, scrub := none, rollback := none,
      lastOp := none, working := some (Report.start .powerOn) }
  filter  := ⟨[], false⟩
  engine  := ⟨[], none⟩
  anchors := ⟨none, 0, .notRead, .notRead, none, some (.readFirst .a)⟩
  store   := ⟨none, Setup.reset, Geometry.unformatted, Setup.reset, .draft⟩
  decoder := ⟨List.replicate 8 ⟨0, 0, none⟩, .direct, none, 262140⟩
  fence   := ⟨.normal, .hold, .level⟩
  attn    := ⟨0, 63, none, 0, none⟩
  frame   := none
  portA   := ⟨.idle, none, none⟩
  portB   := ⟨.idle, none, none⟩
  arb     := ⟨.journal, none, none, none, none,
              some (.journal, ⟨.anchorReadFirst, 16776960, 20, []⟩)⟩
  mem     := []
  free    := 0
  pending := []

end Sys2Proof.Machine
end

