-- ==== Sys2Proof/Machine/Codes.lean ====
section
/-! DEFINITION. The code values of spec/13: enumerations in anchors, frames and responses (R176 to
R178). -/
namespace Sys2Proof.Machine

open Sys2Proof

/-! ## Anchor and staging fields (R176) -/

def Phase.code : Phase → Byte
  | .opened => 0x01
  | .scrubbing => 0x02

def Phase.ofCode (b : Byte) : Option Phase :=
  if b = 0x01 then some .opened else if b = 0x02 then some .scrubbing else none

def Policy.code : Policy → Byte
  | .journaled => 0x01
  | .direct => 0x02
  | .guarded => 0x03

/-- 0x00 is no default policy (R176). -/
def Policy.ofCode (b : Byte) : Option Policy :=
  if b = 0x01 then some .journaled else if b = 0x02 then some .direct
  else if b = 0x03 then some .guarded else none

/-- A window's policy code; 0x00 is DISABLED (R176). -/
def windowPolicyCode : Option Policy → Byte
  | none => 0x00
  | some p => p.code

def windowPolicyOfCode (b : Byte) : Option (Option Policy) :=
  if b = 0x00 then some none else (Policy.ofCode b).map some

def FenceAction.code : FenceAction → Byte
  | .hold => 0x00
  | .refuse => 0x01

def FenceAction.ofCode (b : Byte) : Option FenceAction :=
  if b = 0x00 then some .hold else if b = 0x01 then some .refuse else none

def FenceMode.code : FenceMode → Byte
  | .level => 0x00
  | .latched => 0x01

def FenceMode.ofCode (b : Byte) : Option FenceMode :=
  if b = 0x00 then some .level else if b = 0x01 then some .latched else none

/-! ## Response fields (R178) -/

def JournalState.code : JournalState → Byte
  | .recovering => 0x00
  | .unformatted => 0x01
  | .active => 0x02
  | .committing => 0x03
  | .applying => 0x04
  | .aborting => 0x05
  | .formatting => 0x06
  | .damaged => 0x07

def LongOp.code : LongOp → Byte
  | .none => 0x00
  | .recovery => 0x01
  | .commit => 0x02
  | .abort => 0x03
  | .format => 0x04
  | .apply => 0x05

/-- The operation kinds of the last-operation record have codes of their own (R178); NONE and RECOVERY
are never the kind of a record (R112). -/
def LongOp.kindCode : LongOp → Byte
  | .none => 0x00
  | .recovery => 0x00
  | .commit => 0x01
  | .abort => 0x02
  | .format => 0x03
  | .apply => 0x04

def OpResult.code : OpResult → Byte
  | .done => 0x00
  | .damaged => 0x01
  | .notEmpty => 0x02

def FenceState.code : FenceState → Byte
  | .normal => 0x00
  | .fenced => 0x01
  | .latched => 0x02

def Staging.code : Staging → Byte
  | .draft => 0x00
  | .ready => 0x01

/-- Presence, SATURATED and other flags: 0x00 or 0x01. -/
def flagCode (b : Bool) : Byte := if b then 0x01 else 0x00

def StartCause.code : StartCause → Byte
  | .powerOn => 0x01
  | .resetPin => 0x02
  | .soft => 0x03

def Copy.code : Option Copy → Byte
  | none => 0x00
  | some .a => 0x01
  | some .b => 0x02

def StopReason.code : StopReason → Byte
  | .none => 0x00
  | .endOfJournal => 0x01
  | .epochBoundary => 0x02
  | .tornTail => 0x03
  | .readError => 0x04
  | .damageDetected => 0x05

/-- A stop class is never CURRENT (R126); NONE is 0x00. -/
def SlotClass.code : Option SlotClass → Byte
  | none => 0x00
  | some .unreadable => 0x01
  | some .checkFailed => 0x02
  | some .foreign => 0x03
  | some .emptySlot => 0x04
  | some .otherEpoch => 0x05
  | some .current => 0x00

def RecoveryOutcome.code : Option RecoveryOutcome → Byte
  | none => 0x00
  | some .cleanStart => 0x01
  | some .rolledBack => 0x02
  | some .scrubResumed => 0x03
  | some .unformatted => 0x04
  | some .damaged => 0x05

def portCode : Port → Byte
  | .a => 0x00
  | .b => 0x01

def Access.code : Access → Byte
  | .read => 0x00
  | .write => 0x01

def Reason.code : Reason → Byte
  | .malformed => 0x01
  | .outOfRange => 0x02
  | .pathClosed => 0x03
  | .reservedArea => 0x04
  | .guarded => 0x05
  | .damaged => 0x06
  | .fenceRefused => 0x07
  | .captureFailed => 0x08
  | .journalFull => 0x09
  | .memoryReadError => 0x0A

/-- The results of a management response (R159). -/
inductive Result
  | ok | accepted | busy | fenced | wrongState | notReady | notEmpty | geometryChanged
  | invalidArgument | invalidConfiguration | unknownCommand | frameError
  deriving DecidableEq, Repr

/-- Result codes (R177). -/
def Result.code : Result → Byte
  | .ok => 0x00
  | .accepted => 0x01
  | .busy => 0x02
  | .fenced => 0x03
  | .wrongState => 0x04
  | .notReady => 0x05
  | .notEmpty => 0x06
  | .geometryChanged => 0x07
  | .invalidArgument => 0x08
  | .invalidConfiguration => 0x09
  | .unknownCommand => 0x0A
  | .frameError => 0x0B

/-! ## Command codes (R177) -/

def codeStatus : Byte := 0x01
def codeCommit : Byte := 0x10
def codeAbort : Byte := 0x11
def codeFormat : Byte := 0x12
def codeApply : Byte := 0x13
def codeStageWrite : Byte := 0x20
def codeStageRead : Byte := 0x21
def codeValidate : Byte := 0x22
def codeReleaseFence : Byte := 0x30
def codeReadReport : Byte := 0x40
def codeReadLastOp : Byte := 0x41
def codeReadFault : Byte := 0x42
def codeClearFault : Byte := 0x43
def codeAckAttention : Byte := 0x50
def codeSetAttentionMask : Byte := 0x51
def codeSoftReset : Byte := 0x5A

/-- The sixteen command codes (R158, R177). -/
def commandCodes : List Byte :=
  [codeStatus, codeCommit, codeAbort, codeFormat, codeApply, codeStageWrite, codeStageRead,
   codeValidate, codeReleaseFence, codeReadReport, codeReadLastOp, codeReadFault, codeClearFault,
   codeAckAttention, codeSetAttentionMask, codeSoftReset]

/-- The straps (R43). -/
def MemSize.ofStraps (m : BitVec 3) : MemSize :=
  if m = 0 then .m1 else if m = 1 then .m2 else if m = 2 then .m4 else if m = 3 then .m8 else .m16

/-- Memory lines (R43). -/
def MemSize.lines : MemSize → Nat
  | .m1 => 16384
  | .m2 => 32768
  | .m4 => 65536
  | .m8 => 131072
  | .m16 => 262144

/-- Memory size in bytes: a line is 64 bytes (spec/00 section 0.4). -/
def MemSize.bytes (m : MemSize) : Nat := m.lines * 64

end Sys2Proof.Machine
end

