-- ==== Sys2Proof/Machine/Layout.lean ====
section
/-! DEFINITION. The memory-resident records: journal slots and anchor copies, their places, their bytes
and how they are read back (R19, R21 to R24, R84, R85, R87, R176). -/
namespace Sys2Proof.Machine

open Sys2Proof

/-! ## Journal slots -/

/-- The byte address of slot k (R19). -/
def Geometry.slotAddr (g : Geometry) (k : Nat) : Nat := g.base * 64 + k * 80

/-- The lines of the journal extent: ⌈slot count × 5 / 4⌉ (R19). -/
def Geometry.extentLines (g : Geometry) : Nat := (g.count * 5 + 3) / 4

/-- First and last line of the journal extent (R19, R38). -/
def Geometry.extent (g : Geometry) : Nat × Nat := (g.base, g.base + g.extentLines - 1)

/-- Whether a line lies in the journal extent (R19). -/
def Geometry.holdsLine (g : Geometry) (line : Nat) : Bool :=
  decide (g.base ≤ line) && decide (line < g.base + g.extentLines)

/-- The first line of the anchor area: its last four lines are reserved (R38). -/
def MemSize.anchorFirst (m : MemSize) : Nat := m.lines - 4

/-- The twelve header bytes before the check code (R176). -/
def slotHeader (kind : Byte) (window index line : Nat) (epoch : Word) : List Byte :=
  kind :: leBytes 1 window ++ leBytes 2 index ++ leBytes 4 line ++ leBytes 4 epoch.toNat

/-- A slot: header, check code over the other 76 bytes, image (R22, R176). -/
def slotBytes (header image : List Byte) : List Byte :=
  header ++ leBytes 4 (crc32 (header ++ image)).toNat ++ image

def kindCapture : Byte := 0x01
def kindEmpty : Byte := 0x02

/-- The capture record of R21. -/
def captureRecord (window index line : Nat) (epoch : Word) (image : List Byte) : List Byte :=
  slotBytes (slotHeader kindCapture window index line epoch) image

/-- The EMPTY record of slot k (R23). -/
def emptyRecord (k : Nat) : List Byte :=
  slotBytes (slotHeader kindEmpty 8 k 0 0) (List.replicate 64 0#8)

def slotKind (bs : List Byte) : Byte := bs.headD 0
def slotIndex (bs : List Byte) : Nat := fromLE (slice bs 2 2)
def slotLine (bs : List Byte) : Nat := fromLE (slice bs 4 4)
def slotEpoch (bs : List Byte) : Nat := fromLE (slice bs 8 4)
def slotCheck (bs : List Byte) : Nat := fromLE (slice bs 12 4)
def slotImage (bs : List Byte) : List Byte := slice bs 16 64

/-- The check code is good when the recomputed value equals the stored one (R22). -/
def slotGood (bs : List Byte) : Bool :=
  decide ((crc32 (slice bs 0 12 ++ slotImage bs)).toNat = slotCheck bs)

/-- The class of slot k read as `bs` against epoch `e` (R24). -/
def classify (bs : List Byte) (merr : Bool) (k : Nat) (e : Word) : SlotClass :=
  if merr then .unreadable
  else if !slotGood bs then .checkFailed
  else if (slotKind bs ≠ kindCapture ∧ slotKind bs ≠ kindEmpty) ∨ slotIndex bs ≠ k then .foreign
  else if slotKind bs = kindEmpty then .emptySlot
  else if slotEpoch bs ≠ e.toNat then .otherEpoch
  else .current

/-- Kind, epoch and index read as CAPTURE, E and k (R24, R176). -/
def headerReads (bs : List Byte) (k : Nat) (e : Word) : Bool :=
  decide (slotKind bs = kindCapture) && decide (slotEpoch bs = e.toNat) && decide (slotIndex bs = k)

/-! ## Anchor copies -/

/-- The first byte of a copy: memory size − 256 for A, memory size − 128 for B (R85). -/
def Copy.addr (c : Copy) (m : MemSize) : Nat :=
  match c with
  | .a => m.bytes - 256
  | .b => m.bytes - 128

def Copy.other : Copy → Copy
  | .a => .b
  | .b => .a

/-- The signature constant (R84). -/
def signature : Nat := 0x6A3C91E5

/-- A window entry: first line in 3 bytes, policy, last line in 4 bytes (R176). -/
def Window.bytes (w : Window) : List Byte :=
  leBytes 3 w.first ++ [windowPolicyCode w.policy] ++ leBytes 4 w.last

/-- The 96 bytes before the check code (R176). -/
def Anchor.body (a : Anchor) : List Byte :=
  leBytes 4 signature ++ leBytes 4 a.seq.toNat ++ leBytes 4 a.epoch.toNat
    ++ [a.phase.code, a.setup.default.code, a.setup.action.code, a.setup.mode.code]
    ++ leBytes 4 a.geom.base ++ leBytes 4 a.geom.count ++ leBytes 4 a.setup.alert
    ++ leBytes 4 a.memLines ++ (a.setup.windows.map Window.bytes).flatten

/-- The 100 bytes of a copy (R84, R176). -/
def Anchor.bytes (a : Anchor) : List Byte :=
  a.body ++ leBytes 4 (crc32 a.body).toNat

/-- Reads window entry n of a copy; absent when its policy code is not listed (R176). -/
def windowAt (bs : List Byte) (n : Nat) : Option Window :=
  (windowPolicyOfCode (bs.getD (32 + 8 * n + 3) 0)).map fun p =>
    ⟨fromLE (slice bs (32 + 8 * n) 3), fromLE (slice bs (32 + 8 * n + 4) 4), p⟩

/-- Reads the fields of a copy; absent when an enumerated field holds no listed code (R176). -/
def anchorFields (bs : List Byte) : Option Anchor := do
  let phase ← Phase.ofCode (bs.getD 12 0)
  let default ← Policy.ofCode (bs.getD 13 0)
  let action ← FenceAction.ofCode (bs.getD 14 0)
  let mode ← FenceMode.ofCode (bs.getD 15 0)
  let windows ← (List.range 8).mapM (windowAt bs)
  return {
    seq := BitVec.ofNat 32 (fromLE (slice bs 4 4))
    epoch := BitVec.ofNat 32 (fromLE (slice bs 8 4))
    phase := phase
    geom := ⟨fromLE (slice bs 16 4), fromLE (slice bs 20 4)⟩
    setup := ⟨windows, default, fromLE (slice bs 24 4), action, mode⟩
    memLines := fromLE (slice bs 28 4) }

/-- The journal extent ends at or below line memory lines − 5 (R18, R87, R139). -/
def Geometry.fits (g : Geometry) (m : MemSize) : Bool := decide (g.base + g.extentLines ≤ m.lines - 4)

/-- The slot count lies from 16 to 49,152 (R18, R87, R139). -/
def Geometry.countLegal (g : Geometry) : Bool := decide (16 ≤ g.count) && decide (g.count ≤ 49152)

/-- Tests 4 and 5 of R87 that are left once the enumerated fields are legal: memory lines, the pairing
of phase and epoch, slot count, extent and alert threshold. -/
def Anchor.legal (a : Anchor) (m : MemSize) : Bool :=
  decide (a.memLines = m.lines)
    && (match a.phase with
        | .opened => decide (a.epoch ≠ 0)
        | .scrubbing => decide (a.epoch = 0))
    && a.geom.countLegal && a.geom.fits m && decide (a.setup.alert ≤ a.geom.count)

/-- The five tests of R87 on the 100 bytes of a copy read; the fields when the copy is VALID. -/
def readAnchor (bs : List Byte) (merr : Bool) (m : MemSize) : Option Anchor :=
  if merr then none
  else if fromLE (slice bs 0 4) ≠ signature then none
  else if (crc32 (slice bs 0 96)).toNat ≠ fromLE (slice bs 96 4) then none
  else (anchorFields bs).filter (fun a => a.legal m)

/-- The newest of two copies (R89). -/
def newestOf (a b : Option Anchor) : Option Copy :=
  match a, b with
  | none, none => none
  | some _, none => some .a
  | none, some _ => some .b
  | some x, some y =>
    if y.seq = x.seq + 1 then some .b
    else if x.seq = y.seq + 1 then some .a
    else if y.seq.toNat > x.seq.toNat then some .b
    else some .a

end Sys2Proof.Machine
end

