-- ==== Sys2Proof/Machine/Memory.lean ====
section
/-! DEFINITION. The persistent memory: one byte for each 24-bit address, kept as a sorted list without
the bytes that read as an unlisted address does (log 4, log 5). -/
namespace Sys2Proof.Machine

open Sys2Proof


/-- What a byte that nothing has written reads as: the spec gives memory no contents
(DESIGN CHOICE, log 4; unsafe). -/
def blankByte : Byte := 0#8

/-- M_A[23:2] with the byte lanes spans 2^24 byte addresses (R172). -/
def addressSpace : Nat := 16777216

/-- The byte at one address. -/
def Mem.read : Mem → Nat → Byte
  | [], _ => blankByte
  | (k, b) :: m, a => if k = a then b else Mem.read m a

/-- Puts a cell before the first one with a greater address. -/
def Mem.insert : Mem → Nat → Byte → Mem
  | [], a, b => [(a, b)]
  | (k, c) :: m, a, b => if a < k then (a, b) :: (k, c) :: m else (k, c) :: Mem.insert m a b

/-- Stores one byte; storing the blank byte takes the entry out, so that equal memories are equal
lists. -/
def Mem.write (m : Mem) (a : Nat) (b : Byte) : Mem :=
  let rest := m.filter (fun c => c.1 != a)
  if b = blankByte then rest else Mem.insert rest a b

/-- The canonical form: addresses strictly rising and in the address space, no blank entry. -/
abbrev Mem.wf (m : Mem) : Prop :=
  m.Pairwise (fun x y => x.1 < y.1) ∧ ∀ c ∈ m, c.2 ≠ blankByte ∧ c.1 < addressSpace

/-- `n` bytes at incrementing addresses, as a memory operation reads them (R172). -/
def Mem.readBytes (m : Mem) : Nat → Nat → List Byte
  | _, 0 => []
  | a, n + 1 => m.read (a % addressSpace) :: m.readBytes (a + 1) n

/-- Stores the cells of a memory write; a byte whose enable is deasserted keeps its old value (R172). -/
def Mem.writeCells (m : Mem) : Nat → List (Option Byte) → Mem
  | _, [] => m
  | a, none :: cs => m.writeCells (a + 1) cs
  | a, some b :: cs => (m.write (a % addressSpace) b).writeCells (a + 1) cs

/-- Whether a memory operation stores (R172). -/
def Purpose.isWrite : Purpose → Bool
  | .hostWrite => true
  | .recordWrite => true
  | .anchorWriteFirst => true
  | .anchorWriteSecond => true
  | .scrubWrite => true
  | .lineWrite => true
  | .hostRead => false
  | .lineRead => false
  | .anchorReadFirst => false
  | .anchorReadSecond => false
  | .scanRead => false
  | .lookAheadRead => false
  | .rollbackRead => false

/-- A write made for the bridge itself asserts every byte enable (R172). -/
def wholeCells (bs : List Byte) : List (Option Byte) := bs.map some

/-- The cells a cut-off write has stored (R172): the words marked done, then of the word in progress
the lanes the free value names, then nothing. -/
def tornCells (done : Nat) (lanes : BitVec 4) (cells : List (Option Byte)) : List (Option Byte) :=
  cells.mapIdx fun i c =>
    if i / 4 < done then c else if i / 4 = done ∧ lanes.getLsbD (i % 4) then c else none

/-- The bytes of a word, lane 0 first: lane n lies at byte address + n (DEDUCED, log 6). -/
def wordBytes (w : Word) : List Byte :=
  [w.extractLsb' 0 8, w.extractLsb' 8 8, w.extractLsb' 16 8, w.extractLsb' 24 8]

/-- The cells of one word of a host write under its four byte enables (R168, R172). -/
def enabledWord (be : BitVec 4) (w : Word) : List (Option Byte) :=
  (wordBytes w).mapIdx fun i b => if be.getLsbD i then some b else none

/-- The cells of a host write, word by word (R68, R172). -/
def hostCells : List (BitVec 4) → List Word → List (Option Byte)
  | be :: bes, w :: ws => enabledWord be w ++ hostCells bes ws
  | _, _ => []

/-- The words that bytes spell, lane 0 first; bytes past the last whole word are left out. -/
def bytesToWords : List Byte → List Word
  | b0 :: b1 :: b2 :: b3 :: bs => (b3 ++ b2 ++ b1 ++ b0 : BitVec 32) :: bytesToWords bs
  | _ => []

end Sys2Proof.Machine
end

