-- ==== Sys2Proof/Machine/Ops.lean ====
section
/-! DEFINITION. Operations every block shares: the host path mode and the pins, the host ports, the
Memory Arbiter and the memory port, and the free choices. -/
namespace Sys2Proof.Machine

open Sys2Proof

/-! ## Reset, path mode, pins -/

/-- A reset is in progress: the supply is below its working level or RESET# is low (R118, R171). -/
def State.inReset (s : State) : Bool := s.pins.supplyLow || s.pins.resetLow

/-- The host path mode follows the journal state (R6). -/
def JournalState.pathMode : JournalState → PathMode
  | .recovering => .closed
  | .unformatted => .opened
  | .active => .opened
  | .committing => .writeHold
  | .applying => .writeHold
  | .aborting => .closed
  | .formatting => .closed
  | .damaged => .readOnly

def State.pathMode (s : State) : PathMode := s.jc.state.pathMode

/-- The OPEN pin: high while the path is not CLOSED, low in reset (R6, R171). -/
def State.openPin (s : State) : Bool := !s.inReset && decide (s.pathMode ≠ .closed)

/-- ATTN# is low while the pending set and the mask have a cause in common, high in reset (R167, R171). -/
def State.attnLow (s : State) : Bool := !s.inReset && decide (s.attn.pending &&& s.attn.mask ≠ 0)

/-- What MSDO drives: the response bytes in phase RESPONDING, 0xFF in every other phase (R156). With no frame in
progress, which R156 and R171 leave open, 0xFF (DESIGN CHOICE, log 30). -/
def State.msdo (s : State) : List Byte :=
  match s.frame with
  | some f => if f.phase = .responding then f.response else [0xFF]
  | none => [0xFF]

/-! ## Host ports -/

def State.port (s : State) : Port → HostPort
  | .a => s.portA
  | .b => s.portB

def State.setPort (s : State) (p : Port) (x : HostPort) : State :=
  match p with
  | .a => s.setPortA x
  | .b => s.setPortB x

def portRequester : Port → Requester
  | .a => .portA
  | .b => .portB

/-! ## Memory Arbiter (R174) -/

def Arbiter.request (arb : Arbiter) : Requester → Option MemOp
  | .portA => arb.a
  | .portB => arb.b
  | .capture => arb.capture
  | .journal => arb.journal

def Arbiter.setRequest (arb : Arbiter) (r : Requester) (x : Option MemOp) : Arbiter :=
  match r with
  | .portA => { arb with a := x }
  | .portB => { arb with b := x }
  | .capture => { arb with capture := x }
  | .journal => { arb with journal := x }

/-- The requesters in cycle order, starting with the one after the grant pointer (R174). -/
def Requester.cycleAfter : Requester → List Requester
  | .portA => [.portB, .capture, .journal, .portA]
  | .portB => [.capture, .journal, .portA, .portB]
  | .capture => [.journal, .portA, .portB, .capture]
  | .journal => [.portA, .portB, .capture, .journal]

/-- The first requester in cycle order that has a request pending in `pend` (R174). -/
def pick (pointer : Requester) (pend : Arbiter) : Option Requester :=
  pointer.cycleAfter.find? fun r => (pend.request r).isSome

/-- A requester's request arrives (R174). -/
def State.request (s : State) (r : Requester) (op : MemOp) : State :=
  s.setArb (s.arb.setRequest r (some op))

/-- The memory port takes up the request of r, and the grant pointer names r (R174). -/
def Arbiter.grant (arb : Arbiter) (r : Requester) : Arbiter :=
  match arb.request r with
  | some op => { arb.setRequest r none with pointer := r, current := some (r, op) }
  | none => arb

/-- The operation in progress completes and leaves the memory port (R172). -/
def State.release (s : State) : State := s.setArb { s.arb with current := none }

/-- Asks the world which of two things taken together came first (log 8). -/
def State.askWorld (s : State) : Bool := Config.worldOrder s.free

/-- The question is used up. -/
def State.asked (s : State) : State := s.setFree (s.free + 1)

/-- Which requesters may be granted at the end of an event that began with the arbiter at `before`
(R174): the choice among all pending requests when the event's own requests are taken first, and the
choice among those that stood before it when the completion is taken first. Requests that came together at an idle
port are all pending at its grant; two host ports alone may then come in either order (R81). -/
def grantChoices (before now : Arbiter) : Option (Requester × Requester) :=
  match pick now.pointer now with
  | none => none
  | some g =>
    if before.current.isSome ∧ (pick now.pointer before).isSome then
      match pick now.pointer before with
      | some e => if (now.request e).isSome then some (g, e) else some (g, g)
      | none => some (g, g)
    else if now.a.isSome ∧ now.b.isSome ∧ now.capture.isNone ∧ now.journal.isNone then some (.portA, .portB)
    else some (g, g)

/-- The memory port takes up one of the pending requests when it has no operation in progress; where the order of the
event's parts matters, the world gives it (R174, log 8). An operation in progress stays in progress (R172). -/
def State.grantNow (before : Arbiter) (s : State) : State :=
  match s.arb.current with
  | some _ => s
  | none =>
    match grantChoices before s.arb with
    | none => s
    | some (g, e) =>
      if g = e then s.setArb (s.arb.grant g)
      else s.asked.setArb (s.arb.grant (if s.askWorld then g else e))

/-- The operation in progress when it belongs to requester r and serves purpose p; no event comes from
the memory port during a reset (R171). -/
def State.inProgress (s : State) (r : Requester) (p : Purpose) : Option MemOp :=
  if s.inReset then none
  else match s.arb.current with
    | some (r', op) => if r' = r ∧ op.purpose = p then some op else none
    | none => none

/-- The bytes a read operation returns (R172). -/
def State.bytesOf (s : State) (op : MemOp) : List Byte := s.mem.readBytes op.addr (4 * op.words)

/-- A memory write completes: its bytes are durable (R172). -/
def State.storeCells (s : State) (op : MemOp) : State := s.setMem (s.mem.writeCells op.addr op.cells)

/-! ## The memory operations of each requester (R172, R20, R85) -/

def MemOp.reads (p : Purpose) (addr words : Nat) : MemOp := ⟨p, addr, words, []⟩

/-- A write the bridge makes for itself: whole words, every byte enabled. -/
def MemOp.writes (p : Purpose) (addr : Nat) (bytes : List Byte) : MemOp :=
  ⟨p, addr, bytes.length / 4, wholeCells bytes⟩

def Txn.readOp (t : Txn) : MemOp := .reads .hostRead t.addr t.len

def Txn.writeOp (t : Txn) : MemOp := ⟨.hostWrite, t.addr, t.len, hostCells t.enables t.data⟩

/-! ## Capture Filter (R50, R52, R56) -/

def Filter.empty : Filter := ⟨[], false⟩

/-- The filter's capacity (R48). -/
def filterCapacity : Nat := 1024

/-- A lookup or re-lookup (R50, R51). -/
def Filter.hit (f : Filter) (line : Nat) : Bool := decide (line ∈ f.lines)

/-- An insertion (R52): no change when present, added below capacity, SATURATED when full. -/
def Filter.take (f : Filter) (line : Nat) : Filter :=
  if line ∈ f.lines then f
  else if f.lines.length < filterCapacity then { f with lines := line :: f.lines }
  else { f with saturated := true }

/-! ## Policy Decoder (R35 to R40) -/

/-- An enabled window covers a line when first line ≤ L ≤ last line (R35). -/
def Window.covers (w : Window) (line : Nat) : Bool :=
  w.policy.isSome && decide (w.first ≤ line) && decide (line ≤ w.last)

/-- The lowest-numbered enabled window that covers a line, counted from n (R36). -/
def coveringWindow : List Window → Nat → Nat → Option (Policy × Nat)
  | [], _, _ => none
  | w :: ws, n, line =>
    match w.covers line, w.policy with
    | true, some p => some (p, n)
    | _, _ => coveringWindow ws (n + 1) line

/-- Resolution of a line (R40): anchor area, journal extent, lowest-numbered window, default policy. -/
def Decoder.resolve (d : Decoder) (line : Nat) : Resolution :=
  if d.anchorFirst ≤ line then .reserved
  else if (match d.extent with
      | some (lo, hi) => decide (lo ≤ line) && decide (line ≤ hi)
      | none => false) then .reserved
  else match coveringWindow d.windows 0 line with
    | some (p, n) => .covered p n
    | none => .covered d.default 8

/-- The decoder's copy of a configuration (R44, R45). -/
def Decoder.load (m : MemSize) (geom : Option Geometry) (c : Setup) : Decoder :=
  ⟨c.windows, c.default, geom.map Geometry.extent, m.anchorFirst⟩

end Sys2Proof.Machine
end

