-- ==== Sys2Proof/Machine/Flags.lean ====
section
/-! DEFINITION. The Attention Unit's sets and records: raising a cause, reporting a refusal, and the
refusal of a host transaction (R72, R73, R163, R165). -/
namespace Sys2Proof.Machine

open Sys2Proof

/-- The six attention causes (R165). -/
inductive Cause
  | opDone | recoveryDone | journalLow | journalFull | writeRefused | fenceChange
  deriving DecidableEq, Repr

/-- The bit that names a cause (R177). -/
def Cause.bit : Cause → BitVec 6
  | .opDone => 1
  | .recoveryDone => 2
  | .journalLow => 4
  | .journalFull => 8
  | .writeRefused => 16
  | .fenceChange => 32

/-- A raise adds its cause to the pending set; a cause already pending stays pending once (R165). -/
def State.raise (s : State) (c : Cause) : State :=
  s.setAttn { s.attn with pending := s.attn.pending ||| c.bit }

/-- The report of a refusal, or of a read that ended with MERR (R73). -/
def faultReport (p : Port) (t : Txn) (why : Reason) (e : Word) : FaultRecord :=
  ⟨p, t.kind, t.addr, t.enables.headD 0, t.len, why, e⟩

/-- The first report fills the fault record, each later one counts, up to 65,535 (R73, R163). -/
def Attention.record (at' : Attention) (r : FaultRecord) : Attention :=
  match at'.fault with
  | none => { at' with fault := some r, count := 0 }
  | some _ => { at' with count := min (at'.count + 1) 65535 }

/-- The cause a report raises: JOURNAL_FULL or WRITE_REFUSED for a write, none for a read (R73). -/
def reportCause (kind : Access) (why : Reason) : Option Cause :=
  match kind with
  | .read => none
  | .write => if why = .journalFull then some .journalFull else some .writeRefused

/-- The Attention Unit takes a report (R73). -/
def State.report (s : State) (p : Port) (t : Txn) (why : Reason) : State :=
  let s' := s.setAttn (s.attn.record (faultReport p t why s.jc.epoch))
  match reportCause t.kind why with
  | some c => s'.raise c
  | none => s'

/-- A refused transaction: reason set, resolution cleared, all-zero data for a read (R72). -/
def Txn.refused (t : Txn) (why : Reason) : Txn :=
  { t with
    reason := some why
    resolution := none
    readData := if t.kind = .read then some (List.replicate t.len 0) else none }

/-- A port refuses its transaction, or ends a read with MERR: stage RESPONDING, and the report (R65,
R72, R73). -/
def State.refuse (s : State) (p : Port) (t : Txn) (why : Reason) : State :=
  (s.setPort p { s.port p with stage := .responding, txn := some (t.refused why) }).report p t why

end Sys2Proof.Machine
end

