-- ==== Sys2Proof/Machine/Decision.lean ====
section
/-! DEFINITION. The policy decision of a host port: its ordered checks (R63, R64), what each outcome
does, the hand-back of a captured write, and the decisions held writes retake (R69, R70). -/
namespace Sys2Proof.Machine

open Sys2Proof

/-- The six outcomes of a policy decision (spec/00 section 0.3.2, R63), in the order of its checks. -/
inductive Decision
  | refuse (why : Reason)
  | read
  | hold
  | finish (r : Resolution)
  | write (r : Resolution)
  | queue (r : Resolution) (window : Nat)
  deriving DecidableEq, Repr

/-- Check 1a (R64, R170): both strobes, or a burst that leaves its 32-byte aligned block. -/
def Txn.malformed (t : Txn) : Bool := t.bothStrobes || decide (t.addr / 4 % 8 + t.len > 8)

/-- The line of the first word (R40). -/
def Txn.line (t : Txn) : Nat := t.addr / 64

/-- A write in which every byte enable of every word is deasserted (R66). -/
def Txn.noEnables (t : Txn) : Bool := t.enables.all fun be => be == 0

/-- The fence is up: its state is not NORMAL (R152). -/
def Fence.up (f : Fence) : Bool := decide (f.state ≠ .normal)

/-- Checks 9 to 11 of R63, for a write that passed the hold checks with policy `pol`. -/
def State.judgeOpen (s : State) (t : Txn) (pol : Policy) (w : Nat) : Decision :=
  if t.noEnables then .finish (.covered pol w)
  else if pol = .direct ∨ s.filter.hit t.line then .write (.covered pol w)
  else .queue (.covered pol w) w

/-- Checks 5 to 8 of R63. -/
def State.judgeCovered (s : State) (t : Txn) (pol : Policy) (w : Nat) : Decision :=
  if pol = .guarded then .refuse .guarded
  else if s.pathMode = .readOnly then .refuse .damaged
  else if s.fence.up ∧ s.fence.action = .refuse then .refuse .fenceRefused
  else if s.pathMode = .writeHold ∨ (s.fence.up ∧ s.fence.action = .hold) then .hold
  else s.judgeOpen t pol w

/-- The policy decision: the first check of R63 that applies. -/
def State.judge (s : State) (t : Txn) : Decision :=
  if t.malformed then .refuse .malformed
  else if s.memSize.bytes ≤ t.addr then .refuse .outOfRange
  else if s.pathMode = .closed then .refuse .pathClosed
  else if t.kind = .read then .read
  else match s.decoder.resolve t.line with
    | .reserved => .refuse .reservedArea
    | .covered pol w => s.judgeCovered t pol w

/-- What the decision does (R62, R65, R66, R68, R69, R72, R74). -/
def State.enact (s : State) (p : Port) (t : Txn) : Decision → State
  | .refuse why => s.refuse p t why
  | .read =>
    (s.setPort p { s.port p with stage := .inMemory }).request (portRequester p) t.readOp
  | .hold =>
    s.setPort p { s.port p with stage := .held, txn := some { t with resolution := none, wasHeld := true } }
  | .finish r =>
    s.setPort p { s.port p with stage := .responding, txn := some { t with resolution := some r } }
  | .write r =>
    (s.setPort p { s.port p with stage := .inMemory, txn := some { t with resolution := some r } }).request
      (portRequester p) t.writeOp
  | .queue r w =>
    (s.setPort p
        { s.port p with stage := .captureWait, txn := some { t with resolution := some r } }).setEngine
      { s.engine with queue := s.engine.queue ++ [⟨p, t.line, w⟩] }

/-- A port takes the policy decision of the transaction it carries (R63). -/
def State.takeDecision (s : State) (p : Port) : State :=
  match (s.port p).txn with
  | some t => s.enact p t (s.judge t)
  | none => s

/-- The Capture Engine hands a write back: its port enters IN_MEMORY and requests the memory write (R68,
R76, R79). -/
def State.handBack (s : State) (p : Port) : State :=
  match (s.port p).txn with
  | some t => (s.setPort p { s.port p with stage := .inMemory }).request (portRequester p) t.writeOp
  | none => s

/-- The policy decision of a port in DECIDING (R63, R67); in no other stage, nor in a reset, is one taken. -/
def State.decided (s : State) (p : Port) : Option State :=
  if (s.port p).stage = .deciding ∧ !s.inReset then some (s.takeDecision p) else none

/-- Port p is in DECIDING, with its record as it is (R60, R70). -/
def State.deciding (s : State) (p : Port) : State := s.setPort p { s.port p with stage := .deciding }

/-- The same at both ports at one event: with `both` of them concerned the world gives the order (R67, R70, log 8). -/
def State.atPorts (s : State) (both : Prop) [Decidable both] (f : State → Port → State) : State :=
  if both then
    if s.askWorld then f (f s.asked .a) .b else f (f s.asked .b) .a
  else f (f s .a) .b

/-- One port's held write enters DECIDING and retakes its decision at the event that ends its hold (R62, R70). -/
def State.retakeOne (s : State) (p : Port) : State :=
  if (s.port p).stage = .held then s.takeDecision p else s

/-- The held writes retake their decisions as a COMMIT or an APPLY completes, at the completing event (R7, R57,
R70). -/
def State.retake (s : State) : State :=
  s.atPorts (s.portA.stage = .held ∧ s.portB.stage = .held) State.retakeOne

/-- One port's held write retakes its decision as the fence returns to NORMAL (R70, R150, R151). With `comes`, an
acceptance or a fall of PFAIL# comes together with that decision and may be taken before it (R17, R70, R151): the
world says whether the write stands in DECIDING for it (log 31). -/
def State.retakeOneAtFence (comes : Bool) (s : State) (p : Port) : State :=
  if (s.port p).stage = .held ∧ comes then
    if s.askWorld then s.asked.takeDecision p else s.asked.deciding p
  else s.retakeOne p

/-- The held writes retake their decisions as the fence returns to NORMAL (R150, R151). -/
def State.retakeAtFence (s : State) (comes : Bool) : State :=
  s.atPorts (s.portA.stage = .held ∧ s.portB.stage = .held) (State.retakeOneAtFence comes)

/-- Port p has a decision to retake: its write was held, and stands in DECIDING (R70). -/
def State.retaking (s : State) (p : Port) : Bool :=
  decide ((s.port p).stage = .deciding) && ((s.port p).txn.any fun t => t.wasHeld)

/-- One port takes the decision it has to retake. -/
def State.finishRetakeOne (s : State) (p : Port) : State := if s.retaking p then s.takeDecision p else s

/-- The decisions to retake are taken right after the acceptance or the fall of PFAIL# that came together with them,
against the path mode or the fence it leaves (R17, R70, R151). -/
def State.finishRetake (s : State) : State := s.atPorts (s.retaking .a ∧ s.retaking .b) State.finishRetakeOne

end Sys2Proof.Machine
end

