-- ==== Sys2Proof/Machine/LongOps.lean ====
section
/-! DEFINITION. The work of the Journal Controller and the Anchor Unit inside the long operations: anchor
writes, the epoch advance, scrub, scan, rollback, drain, and the completing events (R4, R33, R82, R91,
R98 to R113, R120 to R131, R141 to R145). -/
namespace Sys2Proof.Machine

open Sys2Proof

/-- The active geometry; a part that journals, scrubs or rolls back always has one (R18, log 22). -/
def State.activeGeom (s : State) : Geometry := s.jc.geom.getD ⟨0, 0⟩

/-- The step of the operation becomes `x` (R98, R120). -/
def State.setStep (s : State) (x : Step) : State := s.setJc { s.jc with step := some x }

/-! ## Anchor writes (R91) -/

/-- The copy that does not hold the newest anchor; A when there is none (R91). -/
def Anchors.target (u : Anchors) : Copy :=
  match u.newest with
  | some c => c.other
  | none => .a

/-- The newest sequence plus one, modulo 2^32, or 1 when the identity is NONE (R91). -/
def Anchors.nextSeq (u : Anchors) : Word :=
  match u.newest with
  | some _ => u.seq + 1
  | none => 1

/-- The anchor the unit assembles (R84, R91). -/
def State.nextAnchor (s : State) (epoch : Word) (phase : Phase) (g : Geometry) (c : Setup) : Anchor :=
  ⟨s.anchors.nextSeq, epoch, phase, g, c, s.memSize.lines⟩

/-- The Journal Controller requests an anchor write: the first part is requested (R85, R91). -/
def State.writeAnchor (s : State) (epoch : Word) (phase : Phase) (g : Geometry) (c : Setup) : State :=
  let bytes := (s.nextAnchor epoch phase g c).bytes
  let target := s.anchors.target
  (s.setAnchors
      { s.anchors with op := some (.writeFirst target s.anchors.nextSeq (bytes.drop 80)) }).request
    .journal (.writes .anchorWriteFirst (target.addr s.memSize) (bytes.take 80))

/-- The last epoch before a wrap (R4). -/
def lastEpoch : Word := 4294967295

/-- The first anchor of the epoch advance: E + 1 and OPEN, or 0 and SCRUBBING at a wrap (R4, R93, R100). -/
def State.startAdvance (s : State) : State :=
  let s := s.setStep .advancing
  if s.jc.epoch = lastEpoch then s.writeAnchor 0 .scrubbing s.activeGeom s.store.active
  else s.writeAnchor (s.jc.epoch + 1) .opened s.activeGeom s.store.active

/-- The anchor with epoch 1 and phase OPEN after a scrub (R4, R102, R124). -/
def State.startWrapAnchor (s : State) : State :=
  (s.setStep .wrapAnchor).writeAnchor 1 .opened s.activeGeom s.store.active

/-- An anchor of FORMAT: the staging image, epoch 1, OPEN (R93, R144). -/
def State.startFormatAnchor (s : State) (x : Step) : State :=
  (s.setStep x).writeAnchor 1 .opened s.store.stagedGeom s.store.staged

/-- The anchor of APPLY: epoch E, OPEN, staged settings, active geometry (R93, R141). -/
def State.startApplyAnchor (s : State) : State :=
  (s.setStep .applyAnchor).writeAnchor s.jc.epoch .opened s.activeGeom s.store.staged

/-! ## Scrub (R32, R33) -/

/-- The geometry a scrub works over: the staged one for FORMAT, the active one for every other caller
(R32). -/
def State.scrubGeom (s : State) : Geometry :=
  if s.jc.op = .format then s.store.stagedGeom else s.activeGeom

/-- The Journal Controller requests the EMPTY record of slot k (R20, R23, R33). -/
def State.requestScrub (s : State) (k : Nat) : State :=
  (s.setJc { s.jc with scrub := some k }).request .journal
    (.writes .scrubWrite (s.scrubGeom.slotAddr k) (emptyRecord k))

/-- A scrub begins: fill 0, filter cleared, slot 0 requested (R33, R56). -/
def State.startScrub (s : State) : State :=
  ((s.setJc { s.jc with fill := 0, step := some .scrubbing }).setFilter .empty).requestScrub 0

/-! ## Completing events -/

/-- A COMMIT, ABORT, FORMAT or APPLY completes: journal state, E and fill take their values, the items
of the operation become absent, the last-operation record is written and OP_DONE raised (R15, R98,
R112). -/
def State.endOperation (s : State) (st : JournalState) (epoch : Word) (fill : Nat) (rec : LastOp) : State :=
  (s.setJc
      { s.jc with
        state := st, op := .none, epoch := epoch, fill := fill, step := none, drain := [],
        scan := none, scrub := none, rollback := none, lastOp := some rec }).raise .opDone

/-- The last-operation record of the operation in progress (R113). -/
def State.opRecord (s : State) (res : OpResult) (after : Word) (applied : Nat) (lines : List Nat)
    (further : Nat) : LastOp :=
  ⟨s.jc.op, res, s.jc.epoch, after, applied, lines, further⟩

/-- COMMIT completes with E becoming `e` (R101). -/
def State.completeCommit (s : State) (e : Word) : State :=
  ((s.setFilter .empty).endOperation .active e 0 (s.opRecord .done e 0 [] 0)).retake

/-- ABORT completes with every record applied (R109). -/
def State.completeAbort (s : State) (e : Word) : State :=
  let applied := match s.jc.rollback with
    | some rb => rb.applied
    | none => 0
  (s.setFilter .empty).endOperation .active e 0 (s.opRecord .done e applied [] 0)

/-- ABORT ends in DAMAGED: E and fill keep their values (R109, R111). -/
def State.abortDamaged (s : State) (applied : Nat) (lines : List Nat) (further : Nat) : State :=
  s.endOperation .damaged s.jc.epoch s.jc.fill
    (s.opRecord .damaged s.jc.epoch applied lines further)

/-- APPLY completes with NOT_EMPTY: nothing else changes (R141). -/
def State.applyNotEmpty (s : State) : State :=
  (s.endOperation .active s.jc.epoch s.jc.fill (s.opRecord .notEmpty s.jc.epoch 0 [] 0)).retake

/-- The Fence Unit takes new settings at the completion of an APPLY or FORMAT; a latched fence under a
new mode LEVEL ends (R142, R155). -/
def State.adoptFence (s : State) (c : Setup) : State :=
  if s.fence.state = .latched ∧ c.mode = .level then
    (s.setFence ⟨.normal, c.action, c.mode⟩).raise .fenceChange
  else s.setFence { s.fence with action := c.action, mode := c.mode }

/-- APPLY completes with DONE (R142). -/
def State.completeApply (s : State) : State :=
  let c := s.store.staged
  let s' := ((s.setStore { s.store with active := c }).setDecoder
    { s.decoder with windows := c.windows, default := c.default }).adoptFence c
  (s'.endOperation .active s.jc.epoch s.jc.fill (s.opRecord .done s.jc.epoch 0 [] 0)).retake

/-- FORMAT completes (R145). -/
def State.completeFormat (s : State) : State :=
  let c := s.store.staged
  let g := s.store.stagedGeom
  let s' := (((s.setStore { s.store with geom := some g, active := c }).setDecoder
    (Decoder.load s.memSize (some g) c)).setFilter .empty).adoptFence c
  ((s'.setJc { s'.jc with geom := some g }).endOperation .active 1 0 (s.opRecord .done 1 0 [] 0)).retake

/-- The staging image at the end of recovery: a copy of the active configuration, or the UNFORMATTED
defaults, in DRAFT (R131, R135). -/
def Store.restage (c : Store) : Store :=
  match c.geom with
  | some g => { c with stagedGeom := g, staged := c.active, staging := .draft }
  | none => { c with stagedGeom := .unformatted, staged := .reset, staging := .draft }

/-- The working report, which is present throughout recovery (R120). -/
def State.workingReport (s : State) : Report := s.jc.working.getD (.start s.cause)

/-- Recovery completes: the path opens, the staging image is set, the report is handed over and
RECOVERY_DONE raised (R9, R131). -/
def State.completeRecovery (s : State) (o : RecoveryOutcome) (st : JournalState) (epoch : Word)
    (fill : Nat) (r : Report) : State :=
  (((s.setJc
      { s.jc with
        state := st, op := .none, epoch := epoch, fill := fill, step := none, drain := [],
        scan := none, scrub := none, rollback := none, working := none }).setStore s.store.restage).setAttn
    { s.attn with report := some { r with outcome := some o } }).raise .recoveryDone

/-- The epoch advance is complete and the operation that called it completes with E becoming `e` (R101,
R109, R124, R130). -/
def State.completeAdvance (s : State) (e : Word) : State :=
  match s.jc.op with
  | .commit => s.completeCommit e
  | .abort => s.completeAbort e
  | .recovery =>
    let s' := s.setFilter .empty
    match s.jc.rollback with
    | some rb =>
      s'.completeRecovery .rolledBack .active e 0
        { s.workingReport with applied := rb.applied, lines := rb.lines, further := rb.further }
    | none => s'.completeRecovery .scrubResumed .active e 0 s.workingReport
  | .none => s
  | .format => s
  | .apply => s

/-! ## Rollback (R105 to R107) -/

/-- A line field joins the working unrestorable list (R106). -/
def Rollback.listLine (rb : Rollback) (line : Nat) : Rollback :=
  if line ∈ rb.lines then rb
  else if rb.lines.length < 8 then { rb with lines := rb.lines ++ [line] }
  else { rb with further := min (rb.further + 1) 65535 }

/-- An unreadable slot raises the further count (R106). -/
def Rollback.countUnread (rb : Rollback) : Rollback := { rb with further := min (rb.further + 1) 65535 }

/-- The list built from a stop slot alone (R111, R129). -/
def stopList (reason : StopReason) (line : Nat) : List Nat × Nat :=
  if reason = .readError then ([], 1) else ([line], 0)

/-- In range and outside the reserved area (R106). -/
def State.restorable (s : State) (line : Nat) : Bool :=
  decide (line < s.memSize.anchorFirst) && !s.activeGeom.holdsLine line

/-- The rollback ends: every record applied, and the epoch advance runs; or not, and the operation ends
in DAMAGED (R107, R109, R130). -/
def State.endRollback (s : State) (rb : Rollback) : State :=
  if rb.lines = [] ∧ rb.further = 0 then s.startAdvance
  else if s.jc.op = .recovery then
    s.completeRecovery .damaged .damaged s.jc.epoch s.jc.fill
      { s.workingReport with applied := rb.applied, lines := rb.lines, further := rb.further }
  else s.abortDamaged rb.applied rb.lines rb.further

/-- The rollback stands at `rb`: it reads the slot at its position, or ends (R105). -/
def State.rollTo (s : State) (rb : Rollback) : State :=
  let s' := s.setJc { s.jc with rollback := some rb }
  if 0 ≤ rb.pos then
    s'.request .journal (.reads .rollbackRead (s.activeGeom.slotAddr rb.pos.toNat) 20)
  else s'.endRollback rb

/-- A rollback begins over the fill (R105). -/
def State.startRollback (s : State) : State :=
  (s.setStep .rollingBack).rollTo ⟨(s.jc.fill : Int) - 1, 0, [], 0⟩

/-! ## The journal scan (R125 to R129) -/

/-- READ_ERROR and DAMAGE_DETECTED count as damage (R126). -/
def StopReason.isDamage (r : StopReason) : Bool := r == .readError || r == .damageDetected

/-- The scan ends at slot k after `scanned` slot reads; `line` is the stop slot's line field (R110, R111,
R128, R129). -/
def State.endScan (s : State) (reason : StopReason) (cls : Option SlotClass) (k scanned line : Nat) :
    State :=
  let s := (s.setJc { s.jc with fill := k, scan := none }).setFilter .empty
  let list := stopList reason line
  if s.jc.op = .recovery then
    let r := { s.workingReport with scanned := scanned, reason := reason, cls := cls, stop := k }
    let s := s.setJc { s.jc with working := some r }
    if reason.isDamage then
      s.completeRecovery .damaged .damaged s.jc.epoch k { r with lines := list.1, further := list.2 }
    else if k = 0 then s.completeRecovery .cleanStart .active s.jc.epoch 0 r
    else s.startRollback
  else if reason.isDamage then s.abortDamaged 0 list.1 list.2
  else s.startRollback

/-- The scan stands at slot k with the look-ahead flag clear: it reads the slot, or stops at the end of
the journal (R125). -/
def State.scanTo (s : State) (k : Nat) : State :=
  let s' := s.setJc { s.jc with scan := some ⟨k, false, 0⟩ }
  if k < s.activeGeom.count then
    s'.request .journal (.reads .scanRead (s.activeGeom.slotAddr k) 20)
  else s'.endScan .endOfJournal none k k 0

/-- A scan begins at slot 0 (R110, R125). -/
def State.startScan (s : State) (x : Step) : State := (s.setStep x).scanTo 0

/-- The stop reason of a slot that neither is CURRENT nor waits for a look-ahead (R126). -/
def stopReason (cls : SlotClass) : StopReason :=
  if cls = .unreadable then .readError else .epochBoundary

/-- The look-ahead begins: the flag is set and slot k + 1 is read (R127). -/
def State.lookAhead (s : State) (k line : Nat) : State :=
  (s.setJc { s.jc with scan := some ⟨k, true, line⟩ }).request .journal
    (.reads .lookAheadRead (s.activeGeom.slotAddr (k + 1)) 20)

/-- The scan's read of slot k completes with `bs` (R125 to R127). -/
def State.scanSlot (s : State) (k : Nat) (bs : List Byte) (merr : Bool) : State :=
  let cls := classify bs merr k s.jc.epoch
  if cls = .current then s.scanTo (k + 1)
  else if cls = .checkFailed ∧ headerReads bs k s.jc.epoch then
    if k + 1 < s.activeGeom.count then s.lookAhead k (slotLine bs)
    else s.endScan .tornTail (some .checkFailed) k (k + 1) (slotLine bs)
  else s.endScan (stopReason cls) (some cls) k (k + 1) (slotLine bs)

/-- The look-ahead read of slot k + 1 completes and decides the stop at slot k (R127). -/
def State.lookAheadSlot (s : State) (sc : Scan) (bs : List Byte) (merr : Bool) : State :=
  let reason := if classify bs merr (sc.pos + 1) s.jc.epoch = .current then .damageDetected else .tornTail
  s.endScan reason (some .checkFailed) sc.pos (sc.pos + 2) sc.line

/-! ## The drain (R82) -/

/-- The drain is complete: the operation's own work begins (R82, R99, R108, R141, R144). -/
def State.drainDone (s : State) : State :=
  match s.jc.op with
  | .commit => s.startAdvance
  | .abort => s.startRollback
  | .apply => if s.jc.fill = 0 then s.startApplyAnchor else s.applyNotEmpty
  | .format => s.startScrub
  | .none => s
  | .recovery => s

/-- The ports whose transactions an acceptance drains: those in CAPTURE_WAIT or IN_MEMORY (R82). -/
def State.toDrain (s : State) : List Port :=
  [Port.a, Port.b].filter fun p => decide ((s.port p).stage = .captureWait ∨ (s.port p).stage = .inMemory)

/-- The drain is set; an empty one is complete at the acceptance event itself (R82). -/
def State.startDrain (s : State) (ports : List Port) : State :=
  let s' := s.setJc { s.jc with step := some .draining, drain := ports }
  if ports = [] then s'.drainDone else s'

/-- A port's transaction reached RESPONDING by a completion or a refusal of the Capture Engine: the drain
waits for it no longer (R82). -/
def State.portResponded (s : State) (p : Port) : State :=
  if p ∈ s.jc.drain then
    let rest := s.jc.drain.filter (fun q => q ≠ p)
    let s' := s.setJc { s.jc with drain := rest }
    if rest = [] then s'.drainDone else s'
  else s

/-- An operation command is accepted: its long-operation state and its name (R17). -/
def State.accept (s : State) (st : JournalState) (op : LongOp) : State :=
  s.setJc { s.jc with state := st, op := op }

/-! ## Resets and the start of recovery (R8, R83, R118, R119) -/

/-- The memory write a reset cuts off leaves its target torn (R172, R175). -/
def State.tear (s : State) (cut : Nat) : State :=
  match s.arb.current with
  | some (_, op) =>
    if op.purpose.isWrite then
      (s.setMem (s.mem.writeCells op.addr (tornCells cut (Config.tornLanes s.free) op.cells))).asked
    else s
  | none => s

/-- The Fence Unit's sample of PFAIL# with action HOLD and release mode LEVEL (R148). -/
def fenceSample (pfailLow : Bool) : Fence := ⟨if pfailLow then .fenced else .normal, .hold, .level⟩

/-- The volatile state of every block after any reset (R119), with start cause `c` recorded; the frame
in progress is discarded (R156). -/
def State.resetBlocks (s : State) (c : StartCause) : State :=
  { s with
    cause := c
    jc :=
      { state := .recovering, op := .recovery, epoch := 0, fill := 0, geom := none, step := none,
        drain := [], scan := none, scrub := none, rollback := none, lastOp := none, working := none }
    filter := .empty
    engine := ⟨[], none⟩
    anchors := ⟨none, 0, .notRead, .notRead, none, none⟩
    store := ⟨none, .reset, .unformatted, .reset, .draft⟩
    decoder := Decoder.load s.memSize none .reset
    fence := fenceSample s.pins.pfailLow
    attn := ⟨0, 63, none, 0, none⟩
    frame := none
    portA := ⟨.idle, none, none⟩
    portB := ⟨.idle, none, none⟩
    arb := ⟨.journal, none, none, none, none, none⟩ }

/-- A reset begins: everything in progress is abandoned (R83, R118, R175). -/
def State.beginReset (s : State) (c : StartCause) (cut : Nat) : State := (s.tear cut).resetBlocks c

/-- The straps are sampled, which sets the anchor area (R42, R43). -/
def State.sampleStraps (s : State) (m : BitVec 3) : State :=
  (s.setMemSize (.ofStraps m)).setDecoder { s.decoder with anchorFirst := (MemSize.ofStraps m).anchorFirst }

/-- A frame is in progress in phase IGNORING when MCS# is low at the end of a reset (R156). -/
def ignoredFrame (mcsLow : Bool) : Option Frame :=
  if mcsLow then some ⟨.ignoring, [], 0, [], false⟩ else none

/-- A reset ends: PFAIL# is sampled, recovery begins in step ANCHOR_SEARCH, and the first part of the
read of copy A is requested (R88, R118, R148). -/
def State.endReset (s : State) : State :=
  let s' := ((s.setFence (fenceSample s.pins.pfailLow)).setFrame (ignoredFrame s.pins.mcsLow)).setJc
    { s.jc with
      state := .recovering, op := .recovery, step := some .anchorSearch,
      working := some (.start s.cause) }
  (s'.setAnchors { s'.anchors with op := some (.readFirst .a) }).request .journal
    (.reads .anchorReadFirst (Copy.a.addr s.memSize) 20)

/-- Recovery takes the newest anchor's configuration (R5, R18, R44, R123). -/
def State.loadAnchor (s : State) (a : Anchor) : State :=
  (((s.setStore { s.store with geom := some a.geom, active := a.setup }).setDecoder
      (Decoder.load s.memSize (some a.geom) a.setup)).setFence
    { s.fence with action := a.setup.action, mode := a.setup.mode }).setJc
    { s.jc with geom := some a.geom, epoch := a.epoch }

/-- The selection is handed to the Journal Controller (R89, R90, R122, R123). -/
def State.selectAnchor (s : State) (a b : Option Anchor) : State :=
  let newest := newestOf a b
  let chosen := match newest with
    | some .a => a
    | some .b => b
    | none => none
  match chosen with
  | none =>
    (s.setAnchors { s.anchors with newest := none, seq := 0, heldA := none, op := none }).completeRecovery
      .unformatted .unformatted 0 0 s.workingReport
  | some x =>
    let r := { s.workingReport with anchor := newest, seq := x.seq, epoch := x.epoch, phase := x.phase }
    let s' := ((s.setAnchors
      { s.anchors with newest := newest, seq := x.seq, heldA := none, op := none }).loadAnchor x)
    let s'' := s'.setJc { s'.jc with working := some r }
    match x.phase with
    | .scrubbing => s''.startScrub
    | .opened => s''.startScan .scanning

end Sys2Proof.Machine
end

