-- ==== Sys2Proof/Machine/Capture.lean ====
section
/-! DEFINITION. What the Capture Engine's events do (R27 to R31, R51, R52, R75 to R79). -/
namespace Sys2Proof.Machine

open Sys2Proof

/-- The engine goes on with its current entry in phase `ph` (R75). -/
def State.setPhase (s : State) (e : Entry) (ph : EnginePhase) : State :=
  s.setEngine { s.engine with current := some ⟨e, ph⟩ }

/-- The read of the 16 words of a line (R76). -/
def lineReadOp (line : Nat) : MemOp := .reads .lineRead (line * 64) 16

/-- The engine takes the head entry and looks up the filter again: a hit hands the write back, a miss
requests the line read (R51, R76). -/
def State.takeEntry (s : State) (e : Entry) (rest : List Entry) : State :=
  if s.filter.hit e.line then
    (s.setEngine ⟨rest, some ⟨e, .hit⟩⟩).handBack e.port
  else (s.setEngine ⟨rest, some ⟨e, .reading⟩⟩).request .capture (lineReadOp e.line)

/-- An idle engine takes the head of a non-empty queue (R76). -/
def State.captureTaken (s : State) : Option State :=
  match s.inReset, s.engine.current, s.engine.queue with
  | false, none, e :: rest => some (s.takeEntry e rest)
  | _, _, _ => none

/-- The engine refuses the write of its entry and becomes idle; the drain may be complete (R77, R78,
R82). -/
def State.refuseEntry (s : State) (e : Entry) (why : Reason) : State :=
  let s' := s.setEngine { s.engine with current := none }
  match (s'.port e.port).txn with
  | some t => (s'.refuse e.port t why).portResponded e.port
  | none => s'

/-- The line read of a capture has completed (R77). -/
def State.lineReadDone (s : State) (e : Entry) (op : MemOp) (merr : Bool) : State :=
  if merr then s.refuseEntry e .captureFailed else s.setPhase e (.reserving (s.bytesOf op))

/-- The Journal Controller answers the reservation: slot fill while fill is below the slot count, or a
failure with JOURNAL_FULL (R27, R29, R78). -/
def State.reserve (s : State) (e : Entry) (image : List Byte) : State :=
  if s.jc.fill < s.activeGeom.count then
    (s.setPhase e (.writing s.jc.fill)).request .capture
      (.writes .recordWrite (s.activeGeom.slotAddr s.jc.fill)
        (captureRecord e.window s.jc.fill e.line s.jc.epoch image))
  else s.refuseEntry e .journalFull

/-- The engine's reservation is answered (R27, R78). -/
def State.slotReserved (s : State) : Option State :=
  match s.inReset, s.engine.current with
  | false, some ⟨e, .reserving image⟩ => some (s.reserve e image)
  | _, _ => none

/-- Fill rises by one and is compared with the alert threshold (R28, R31). -/
def State.countRecord (s : State) : State :=
  let fill := s.jc.fill + 1
  let s' := s.setJc { s.jc with fill := fill }
  if s.store.active.alert ≠ 0 ∧ fill = s.store.active.alert then s'.raise .journalLow else s'

/-- The filter takes the line of the current entry, and the write is handed back (R52, R79). -/
def State.lineInserted (s : State) : Option State :=
  match s.inReset, s.engine.current with
  | false, some ⟨e, .inserting _⟩ =>
    some (((s.setFilter (s.filter.take e.line)).setPhase e .captured).handBack e.port)
  | _, _ => none

end Sys2Proof.Machine
end

