-- ==== Sys2Proof/Machine/Operands.lean ====
section
/-! DEFINITION. What a management frame carries in and out: the arguments of the commands, the responses
and their data, and the dispatch every command shares (R136, R156 to R159, R177, R178). -/
namespace Sys2Proof.Machine

open Sys2Proof

/-! ## Responses (R159) -/

/-- A response: its result, its data, and whether it takes a SOFT_RESET at the closing of its frame
(R164). -/
structure Reply where
  result : Result
  data   : List Byte
  soft   : Bool := false
  deriving DecidableEq, Repr

/-- A result without data. -/
def Reply.bare (r : Result) : Reply := ⟨r, [], false⟩

/-- OK with the command's own data. -/
def Reply.ok (data : List Byte) : Reply := ⟨.ok, data, false⟩

/-- BUSY names the long operation in progress (R159). -/
def State.busyReply (s : State) : Reply := ⟨.busy, [s.jc.op.code], false⟩

/-- WRONG_STATE carries the journal state and the fence state (R159). -/
def State.wrongState (s : State) : Reply := ⟨.wrongState, [s.jc.state.code, s.fence.state.code], false⟩

/-- The bytes of a response in sending order: turnaround byte, result code, length, data, CRC-8 over all
but the turnaround byte (R156, R159, R177). -/
def Reply.bytes (r : Reply) : List Byte :=
  let told := r.result.code :: BitVec.ofNat 8 r.data.length :: r.data
  0xFF#8 :: told ++ [crc8 told]

/-! ## Dispatch (R156, R158) -/

/-- The bytes a request CRC-8 covers: command code, length byte, arguments (R177). -/
def requestBytes (code : Byte) (f : FrameTail) : List Byte :=
  code :: BitVec.ofNat 8 f.args.length :: f.args

/-- Check 1 of R158. -/
def crcMatches (code : Byte) (f : FrameTail) : Bool := decide (f.crc = crc8 (requestBytes code f))

/-- A frame in progress is taking bytes; only then can one be dispatched (R156). -/
def State.receiving (s : State) : Bool :=
  !s.inReset && match s.frame with
    | some f => decide (f.phase = .receiving)
    | none => false

/-- The frame after its dispatch: the response is built and the phase is RESPONDING (R156). -/
def respondedFrame (code : Byte) (f : FrameTail) (r : Reply) : Frame :=
  ⟨.responding, f.args.take 40, crc8 (requestBytes code f), r.bytes, r.soft⟩

/-- Checks 1 to 3 of R158 and then the owning block's answer, with the state it leaves. -/
def dispatchResult (code : Byte) (f : FrameTail) (lengthLegal : Bool) (body : State → Reply × State)
    (s : State) : Reply × State :=
  if !crcMatches code f then (.bare .frameError, s)
  else if !lengthLegal then (.bare .invalidArgument, s)
  else body s

/-- What the dispatch of a frame does (R156, R158); nothing is dispatched unless a frame is taking bytes. -/
def State.dispatched (s : State) (code : Byte) (f : FrameTail) (lengthLegal : Bool)
    (body : State → Reply × State) : Option State :=
  if s.receiving then
    let r := dispatchResult code f lengthLegal body s
    some (r.2.setFrame (some (respondedFrame code f r.1)))
  else none

/-- The argument length is n (check 3 of R158). -/
def lengthIs (f : FrameTail) (n : Nat) : Bool := decide (f.args.length = n)

/-! ## Staging items (R136, R177) -/

/-- An item of the staging image with its fields. -/
inductive StageItem
  | geometry (g : Geometry)
  | settings (default : Policy) (alert : Nat) (action : FenceAction) (mode : FenceMode)
  | window (n : Nat) (w : Window)
  deriving DecidableEq, Repr

def itemGeometry : Byte := 0x10
def itemSettings : Byte := 0x20

/-- The highest line number a line field may carry (R136). -/
def maxLine : Nat := 262143

def parseGeometry (bs : List Byte) : Option StageItem :=
  let base := fromBE (slice bs 0 4)
  if bs.length = 6 ∧ base ≤ maxLine then some (.geometry ⟨base, fromBE (slice bs 4 2)⟩) else none

def parseSettings (bs : List Byte) : Option StageItem :=
  if bs.length = 5 then do
    let default ← Policy.ofCode (bs.getD 0 0)
    let action ← FenceAction.ofCode (bs.getD 3 0)
    let mode ← FenceMode.ofCode (bs.getD 4 0)
    return .settings default (fromBE (slice bs 1 2)) action mode
  else none

def parseWindow (n : Nat) (bs : List Byte) : Option StageItem :=
  let first := fromBE (slice bs 0 4)
  let last := fromBE (slice bs 4 4)
  if bs.length = 9 ∧ first ≤ maxLine ∧ last ≤ maxLine then
    (windowPolicyOfCode (bs.getD 8 0)).map fun p => .window n ⟨first, last, p⟩
  else none

/-- The item and fields of a STAGE_WRITE; absent when its length, its item or a field is not legal
(checks 1 to 3 of R137, checks 3 and 4 of R158). -/
def parseStageItem (args : List Byte) : Option StageItem :=
  match args with
  | [] => none
  | item :: rest =>
    if item = itemGeometry then parseGeometry rest
    else if item = itemSettings then parseSettings rest
    else if item.toNat ≤ 7 then parseWindow item.toNat rest
    else none

/-- Replaces every field of the item (R137). -/
def Store.stage (c : Store) : StageItem → Store
  | .geometry g => { c with stagedGeom := g, staging := .draft }
  | .settings d a x m =>
    { c with staged := { c.staged with default := d, alert := a, action := x, mode := m }, staging := .draft }
  | .window n w =>
    { c with staged := { c.staged with windows := c.staged.windows.set n w }, staging := .draft }

/-- The bytes of an item as STAGE_WRITE carries them (R177, R178). -/
def StageItem.bytes : StageItem → List Byte
  | .geometry g => itemGeometry :: beBytes 4 g.base ++ beBytes 2 g.count
  | .settings d a x m => [itemSettings, d.code] ++ beBytes 2 a ++ [x.code, m.code]
  | .window n w =>
    BitVec.ofNat 8 n :: beBytes 4 w.first ++ beBytes 4 w.last ++ [windowPolicyCode w.policy]

/-- The item an item byte names, with the fields the staging image holds (R138). -/
def Store.item (c : Store) (item : Byte) : Option StageItem :=
  if item = itemGeometry then some (.geometry c.stagedGeom)
  else if item = itemSettings then
    some (.settings c.staged.default c.staged.alert c.staged.action c.staged.mode)
  else if item.toNat ≤ 7 then
    some (.window item.toNat (c.staged.windows.getD item.toNat ⟨0, 0, none⟩))
  else none

/-! ## Cause sets (R177) -/

/-- The set a byte names; absent when bit 6 or bit 7 is set (R166, R167). -/
def causeSet (b : Byte) : Option (BitVec 6) := if b.toNat < 64 then some (b.setWidth 6) else none

/-- A set of causes in a response (R177). -/
def causeByte (c : BitVec 6) : Byte := c.setWidth 8

/-! ## Response data (R178) -/

/-- The slot count STATUS reports: 0 while the geometry is none (R18, R161). -/
def State.reportedSlots (s : State) : Nat :=
  match s.jc.geom with
  | some g => g.count
  | none => 0

/-- The STATUS snapshot (R161, R178). -/
def State.statusData (s : State) : List Byte :=
  [s.jc.state.code, s.jc.op.code] ++ beBytes 4 s.jc.epoch.toNat ++ beBytes 2 s.jc.fill
    ++ beBytes 2 s.reportedSlots ++ beBytes 2 s.filter.lines.length
    ++ [flagCode s.filter.saturated, s.fence.state.code, causeByte s.attn.pending,
        causeByte s.attn.mask, s.store.staging.code]
    ++ beBytes 4 s.memSize.lines

/-- The count of listed lines and the lines, 4 bytes each (R178). -/
def lineList (ls : List Nat) : List Byte :=
  BitVec.ofNat 8 ls.length :: (ls.map (beBytes 4)).flatten

/-- The data of READ_REPORT (R132, R178). -/
def Report.data (r : Report) : List Byte :=
  [r.cause.code, Copy.code r.anchor] ++ beBytes 4 r.seq.toNat ++ beBytes 4 r.epoch.toNat
    ++ [r.phase.code] ++ beBytes 2 r.scanned ++ [r.reason.code, SlotClass.code r.cls]
    ++ beBytes 2 r.stop ++ beBytes 2 r.applied ++ [RecoveryOutcome.code r.outcome]
    ++ beBytes 2 r.further ++ lineList r.lines

/-- The data of READ_LAST_OP (R112, R162, R178). -/
def lastOpData : Option LastOp → List Byte
  | none => [flagCode false]
  | some r =>
    [flagCode true, r.kind.kindCode, r.result.code] ++ beBytes 4 r.before.toNat
      ++ beBytes 4 r.after.toNat ++ beBytes 2 r.applied ++ beBytes 2 r.further ++ lineList r.lines

/-- The data of READ_FAULT (R163, R178). -/
def Attention.faultData (x : Attention) : List Byte :=
  match x.fault with
  | none => [flagCode false]
  | some r =>
    [flagCode true, portCode r.port, r.kind.code] ++ beBytes 4 r.addr
      ++ [r.enables.setWidth 8, BitVec.ofNat 8 r.len, r.reason.code] ++ beBytes 4 r.epoch.toNat
      ++ beBytes 2 x.count

end Sys2Proof.Machine
end

