-- ==== Sys2Proof/Machine/Operations.lean ====
section
/-! DEFINITION. The four operation commands: their acceptance checks and what acceptance starts, with the decisions
to retake that the acceptance was taken before (R16, R17, R99, R104, R108, R110, R141, R144). -/
namespace Sys2Proof.Machine

open Sys2Proof

/-- Checks 2 to 4 of R16: the answer of the first that fails. -/
def State.operationCheck (s : State) (allowed : List JournalState) : Option Reply :=
  if s.jc.op ≠ .none then some s.busyReply
  else if s.fence.state ≠ .normal then some ⟨.fenced, [s.fence.state.code], false⟩
  else if s.jc.state ∉ allowed then some s.wrongState
  else none

/-- COMMIT: from ACTIVE the drain is set; from DAMAGED the epoch advance begins at once (R99, R104). -/
def State.commitCommand (s : State) : Reply × State :=
  match s.operationCheck [.active, .damaged] with
  | some r => (r, s)
  | none =>
    let s' := s.accept .committing .commit
    (.bare .accepted,
      (if s.jc.state = .damaged then s'.startAdvance else s'.startDrain s.toDrain).finishRetake)

/-- What the dispatch of COMMIT does (R156). -/
def State.commitDispatched (s : State) (f : FrameTail) : Option State :=
  s.dispatched codeCommit f (lengthIs f 0) State.commitCommand

/-- ABORT: from ACTIVE the drain is set; from DAMAGED the journal is scanned again (R108, R110). -/
def State.abortCommand (s : State) : Reply × State :=
  match s.operationCheck [.active, .damaged] with
  | some r => (r, s)
  | none =>
    let s' := s.accept .aborting .abort
    (.bare .accepted,
      (if s.jc.state = .damaged then s'.startScan .rescanning else s'.startDrain s.toDrain).finishRetake)

/-- What the dispatch of ABORT does (R156). -/
def State.abortDispatched (s : State) (f : FrameTail) : Option State :=
  s.dispatched codeAbort f (lengthIs f 0) State.abortCommand

/-- FORMAT: the drain is set, with nothing to drain from DAMAGED (R16, R82, R144). -/
def State.formatCommand (s : State) : Reply × State :=
  match s.operationCheck [.unformatted, .active, .damaged] with
  | some r => (r, s)
  | none =>
    if s.store.staging ≠ .ready then (.bare .notReady, s)
    else if s.jc.state = .active ∧ s.jc.fill ≠ 0 then (⟨.notEmpty, beBytes 2 s.jc.fill, false⟩, s)
    else
      (.bare .accepted,
        ((s.accept .formatting .format).startDrain
          (if s.jc.state = .damaged then [] else s.toDrain)).finishRetake)

/-- What the dispatch of FORMAT does (R156). -/
def State.formatDispatched (s : State) (f : FrameTail) : Option State :=
  s.dispatched codeFormat f (lengthIs f 0) State.formatCommand

/-- APPLY: the staged geometry must equal the active one; the drain is set (R16, R141). -/
def State.applyCommand (s : State) : Reply × State :=
  match s.operationCheck [.active] with
  | some r => (r, s)
  | none =>
    if s.store.staging ≠ .ready then (.bare .notReady, s)
    else if s.jc.geom ≠ some s.store.stagedGeom then (.bare .geometryChanged, s)
    else
      (.bare .accepted, ((s.accept .applying .apply).startDrain s.toDrain).finishRetake)

/-- What the dispatch of APPLY does (R156). -/
def State.applyDispatched (s : State) (f : FrameTail) : Option State :=
  s.dispatched codeApply f (lengthIs f 0) State.applyCommand

/-! ## An acceptance that comes next (R17) -/

/-- The frame would be answered ACCEPTED. -/
def State.accepts (s : State) (code : Byte) (f : FrameTail) (body : State → Reply × State) : Bool :=
  decide ((dispatchResult code f (lengthIs f 0) body s).1.result = .accepted)

/-- The next command that waits is one of the four operation commands, and it would be accepted: it comes together
with the present event (R17, log 31). -/
def State.acceptanceNext (s : State) : Bool :=
  s.receiving && match s.pending with
    | .commit f :: _ => s.accepts codeCommit f State.commitCommand
    | .abort f :: _ => s.accepts codeAbort f State.abortCommand
    | .format f :: _ => s.accepts codeFormat f State.formatCommand
    | .apply f :: _ => s.accepts codeApply f State.applyCommand
    | _ => false

end Sys2Proof.Machine
end

