-- ==== Sys2Proof/Machine/Fence.lean ====
section
/-! DEFINITION. What the Fence Unit's events do: PFAIL# edges and RELEASE_FENCE (R149 to R151, R154). -/
namespace Sys2Proof.Machine

open Sys2Proof

/-- The fence state becomes `x` and FENCE_CHANGE is raised (R154). -/
def State.changeFence (s : State) (x : FenceState) : State :=
  (s.setFence { s.fence with state := x }).raise .fenceChange

/-- What a rise does to the Fence Unit: LEVEL ends the fence and the held writes retake their decisions, beside an
acceptance where one comes together with the rise (R17); LATCHED keeps it up (R150). -/
def State.pfailRises (s : State) : State :=
  match s.fence.mode with
  | .level => let s' := s.changeFence .normal; s'.retakeAtFence s'.acceptanceNext
  | .latched => s.setFence { s.fence with state := .latched }

/-- A rise of PFAIL# outside a reset (R150). -/
def State.pfailRisen (s : State) : Option State :=
  if s.pins.pfailLow ∧ !s.inReset then some (s.setPins { s.pins with pfailLow := false }).pfailRises else none

/-- The next command that waits is a fall of PFAIL#: it comes together with the present event (R151, log 31). -/
def State.fallNext (s : State) : Bool := !s.pins.pfailLow && decide (s.pending.head? = some .pfailFall)

/-- The Fence Unit's checks on RELEASE_FENCE, and the release, at which the held writes retake their decisions, beside
a fall where one comes together with it (R151). -/
def State.releaseFence (s : State) : Reply × State :=
  if s.jc.op ≠ .none then (s.busyReply, s)
  else if s.fence.mode ≠ .latched ∨ s.fence.state ≠ .latched then (s.wrongState, s)
  else (.ok [], (s.changeFence .normal).retakeAtFence s.fallNext)

/-- What the dispatch of RELEASE_FENCE does (R151, R156). -/
def State.releaseDispatched (s : State) (f : FrameTail) : Option State :=
  s.dispatched codeReleaseFence f (lengthIs f 0) State.releaseFence

end Sys2Proof.Machine
end

