-- ==== Sys2Proof/Machine/Together.lean ====
section
/-! DEFINITION. How an event is taken: its effect, and then the arbiter's grant, which waits for the next event where
the two come together and each requests memory (R174). -/
namespace Sys2Proof.Machine

open Sys2Proof

/-- What an event does that may request memory at an idle memory port, where it can be taken; every other row of the
table belongs to an operation in progress, to a reset, or to a command that requests nothing (R174). -/
def State.requestingEffect (s : State) : Instr → Option State
  | .policyDecision p => s.decided p
  | .captureTake => s.captureTaken
  | .slotReservation => s.slotReserved
  | .filterInsertion => s.lineInserted
  | .pfailRise => s.pfailRisen
  | .releaseFence f => s.releaseDispatched f
  | .commit f => s.commitDispatched f
  | .abort f => s.abortDispatched f
  | .format f => s.formatDispatched f
  | .apply f => s.applyDispatched f
  | _ => none

/-- A requester has a request pending in `now` that had none in `arb` (R174). -/
def Arbiter.gains (arb now : Arbiter) : Bool :=
  [Requester.portA, .portB, .capture, .journal].any fun r => (arb.request r).isNone && (now.request r).isSome

/-- The next command that waits brings a request of its own: it comes together with the present event (R174, log 29). -/
def State.requestNext (s : State) : Bool :=
  match s.pending with
  | c :: rest =>
    match (s.setPending rest).requestingEffect c with
    | some t => s.arb.gains t.arb
    | none => false
  | [] => false

/-- An event that began with the arbiter at `before` ends with its requests at an idle memory port: the port was idle
before it, or the completion found nothing pending. A completion with requests pending has its grant at once (R174). -/
def Arbiter.arriveIdle (before now : Arbiter) : Bool :=
  now.current.isNone && (before.current.isNone || (pick now.pointer before).isNone) && (pick now.pointer now).isSome

/-- The end of an event: the arbiter grants whenever the memory port has no operation in progress and a request is
pending (R174). Requests that arrive together at an idle port are all pending at the grant if all are taken before
it: where the next command brings one, the world says whether the grant waits for that command (log 29). -/
def State.settle (before : Arbiter) (s : State) : State :=
  if before.arriveIdle s.arb ∧ s.asked.requestNext then
    if s.askWorld then s.asked else s.asked.grantNow before
  else s.grantNow before

/-- An event is taken: its effect, and then the arbiter's grant (R174). -/
def State.occur (s : State) (effect : State → State) : State := (effect s).settle s.arb

/-- An event with its effect where it can be taken; where it cannot, the part stays as it is (log 2). -/
def State.take (s : State) (effect : Option State) : Host.Outcome State Fault Refusal :=
  match effect with
  | some t => .next (t.settle s.arb)
  | none => .next s

/-- The dispatch of a frame (R156, R158). -/
def dispatch (code : Byte) (f : FrameTail) (lengthLegal : Bool) (body : State → Reply × State) (s : State) :
    Host.Outcome State Fault Refusal :=
  s.take (s.dispatched code f lengthLegal body)

end Sys2Proof.Machine
end

