-- ==== Sys2Proof/Machine/AnchorEvents.lean ====
section
/-! DEFINITION. The meanings of the Anchor Unit's memory completions: the reads of recovery and the
anchor writes of the operations (R85, R87 to R91, R101, R102, R109, R124, R130, R142, R145). -/
namespace Sys2Proof.Machine

open Sys2Proof

/-- The second part of a copy: the 5 words after its first 20 (R85). -/
def secondPart (c : Copy) (m : MemSize) : Nat := c.addr m + 80

/-- ANCHOR_READ_FIRST_PART_COMPLETE: the second part is requested, after MERR too (R85, R87). -/
def execAnchorReadFirstPartComplete (merr : Bool) (s : State) : Host.Outcome State Fault Refusal :=
  match s.inProgress .journal .anchorReadFirst, s.anchors.op with
  | some op, some (.readFirst c) =>
    .next (s.occur fun s =>
      ((s.release.setAnchors { s.anchors with op := some (.readSecond c (s.bytesOf op) merr) }).request
        .journal (.reads .anchorReadSecond (secondPart c s.memSize) 5)))
  | _, _ => .next s

/-- What the unit's test makes of a copy (R86, R87). -/
def validity (a : Option Anchor) : Validity := if a.isSome then .valid else .invalid

/-- A copy read has completed and the copy is tested: after A the read of B begins, after B the newest
copy is selected (R87 to R89). -/
def State.copyRead (s : State) (c : Copy) (a : Option Anchor) : State :=
  match c with
  | .a =>
    (s.setAnchors { s.anchors with validA := validity a, heldA := a, op := some (.readFirst .b) }).request
      .journal (.reads .anchorReadFirst (Copy.b.addr s.memSize) 20)
  | .b => (s.setAnchors { s.anchors with validB := validity a }).selectAnchor s.anchors.heldA a

/-- ANCHOR_READ_COMPLETE (R87 to R89, R122, R123). -/
def execAnchorReadComplete (merr : Bool) (s : State) : Host.Outcome State Fault Refusal :=
  match s.inProgress .journal .anchorReadSecond, s.anchors.op with
  | some op, some (.readSecond c first firstMerr) =>
    .next (s.occur fun s =>
      s.release.copyRead c (readAnchor (first ++ s.bytesOf op) (firstMerr || merr) s.memSize))
  | _, _ => .next s

/-- ANCHOR_WRITE_FIRST_PART_COMPLETE: the second part is requested (R85, R91). -/
def execAnchorWriteFirstPartComplete (s : State) : Host.Outcome State Fault Refusal :=
  match s.inProgress .journal .anchorWriteFirst, s.anchors.op with
  | some op, some (.writeFirst c seq rest) =>
    .next (s.occur fun s =>
      (((s.release.storeCells op).setAnchors { s.anchors with op := some (.writeSecond c seq) }).request
        .journal (.writes .anchorWriteSecond (secondPart c s.memSize) rest)))
  | _, _ => .next s

/-- What the operation does when an anchor of its is durable, by its step (R98, R100 to R102, R124, R142,
R144, R145). -/
def State.anchorDone (s : State) : State :=
  match s.jc.step with
  | some .advancing =>
    if s.jc.epoch = lastEpoch then s.startScrub else s.completeAdvance (s.jc.epoch + 1)
  | some .wrapAnchor => s.completeAdvance 1
  | some .applyAnchor => s.completeApply
  | some .firstAnchor => s.startFormatAnchor .secondAnchor
  | some .secondAnchor => s.completeFormat
  | some .anchorSearch => s
  | some .scanning => s
  | some .draining => s
  | some .rescanning => s
  | some .rollingBack => s
  | some .scrubbing => s
  | none => s

/-- ANCHOR_WRITE_COMPLETE: the target becomes the newest copy, and the operation goes on or completes
(R91). -/
def execAnchorWriteComplete (s : State) : Host.Outcome State Fault Refusal :=
  match s.inProgress .journal .anchorWriteSecond, s.anchors.op with
  | some op, some (.writeSecond c seq) =>
    .next (s.occur fun s =>
      ((s.release.storeCells op).setAnchors
        { s.anchors with newest := some c, seq := seq, op := none }).anchorDone)
  | _, _ => .next s

end Sys2Proof.Machine
end

