-- ==== Sys2Proof/Machine/CaptureEvents.lean ====
section
/-! DEFINITION. The meanings of the Capture Engine's events (R27 to R31, R51, R52, R75 to R79). -/
namespace Sys2Proof.Machine

open Sys2Proof

/-- CAPTURE_TAKE: an idle engine takes the head of a non-empty queue (R76). -/
def execCaptureTake (s : State) : Host.Outcome State Fault Refusal := s.take s.captureTaken

/-- LINE_READ_COMPLETE (R77). -/
def execLineReadComplete (merr : Bool) (s : State) : Host.Outcome State Fault Refusal :=
  match s.inProgress .capture .lineRead, s.engine.current with
  | some op, some ⟨e, .reading⟩ => .next (s.occur fun s => s.release.lineReadDone e op merr)
  | _, _ => .next s

/-- SLOT_RESERVATION (R27, R78). -/
def execSlotReservation (s : State) : Host.Outcome State Fault Refusal := s.take s.slotReserved

/-- RECORD_WRITE_COMPLETE: the record is durable and counted, and the engine enters INSERTING (R28,
R79). -/
def execRecordWriteComplete (s : State) : Host.Outcome State Fault Refusal :=
  match s.inProgress .capture .recordWrite, s.engine.current with
  | some op, some ⟨e, .writing k⟩ =>
    .next (s.occur fun s => ((s.release.storeCells op).setPhase e (.inserting k)).countRecord)
  | _, _ => .next s

/-- FILTER_INSERTION: the filter takes the line, and the write is handed back (R52, R79). -/
def execFilterInsertion (s : State) : Host.Outcome State Fault Refusal := s.take s.lineInserted

end Sys2Proof.Machine
end

