-- ==== Sys2Proof/Machine/FenceEvents.lean ====
section
/-! DEFINITION. The meanings of the Fence Unit's events: PFAIL# edges and RELEASE_FENCE (R149 to R151,
R154). -/
namespace Sys2Proof.Machine

open Sys2Proof

/-- PFAIL_FALL: the fence state becomes FENCED (R149), and a decision that came together with the fall and is still to
retake meets the fence (R151). During a reset only the level is followed (R148). -/
def execPfailFall (s : State) : Host.Outcome State Fault Refusal :=
  if s.pins.pfailLow then .next s
  else
    let s' := s.setPins { s.pins with pfailLow := true }
    if s.inReset then .next s' else .next (s'.occur fun s => (s.changeFence .fenced).finishRetake)

/-- PFAIL_RISE (R150). During a reset only the level is followed (R148). -/
def execPfailRise (s : State) : Host.Outcome State Fault Refusal :=
  if !s.pins.pfailLow then .next s
  else if s.inReset then .next (s.setPins { s.pins with pfailLow := false })
  else s.take s.pfailRisen

/-- RELEASE_FENCE (R151). -/
def execReleaseFence (f : FrameTail) (s : State) : Host.Outcome State Fault Refusal :=
  s.take (s.releaseDispatched f)

end Sys2Proof.Machine
end

