-- ==== Sys2Proof/Machine/Frames.lean ====
section
/-! DEFINITION. The meanings of the Management Port's own events: the edges of MCS#, the end of a
response, STATUS, SOFT_RESET and a frame that names no command (R156 to R161, R164). -/
namespace Sys2Proof.Machine

open Sys2Proof

/-- FRAME_OPEN: a fall of MCS# opens a frame in phase RECEIVING; during a reset it opens nothing (R156). -/
def execFrameOpen (s : State) : Host.Outcome State Fault Refusal :=
  if s.pins.mcsLow then .next s
  else
    let s' := s.setPins { s.pins with mcsLow := true }
    if s.inReset then .next s' else .next (s'.setFrame (some ⟨.receiving, [], 0, [], false⟩))

/-- The frame in progress carried a SOFT_RESET answered OK (R157). -/
def State.softResetDue (s : State) : Bool :=
  match s.frame with
  | some f => f.softReset
  | none => false

/-- FRAME_CLOSE: a rise of MCS# closes the frame; when the frame carried an accepted SOFT_RESET, the
reset begins and ends at this event, without a strap sample (R157, R164). -/
def execFrameClose (cut : Nat) (s : State) : Host.Outcome State Fault Refusal :=
  if !s.pins.mcsLow then .next s
  else
    let s' := s.setPins { s.pins with mcsLow := false }
    if s.inReset then .next s'
    else if s.softResetDue then .next (((s'.beginReset .soft cut).endReset).grantNow s.arb)
    else .next (s'.setFrame none)

/-- RESPONSE_SENT_IN_FULL: the frame passes from RESPONDING to TRAILING (R156). -/
def execResponseSentInFull (s : State) : Host.Outcome State Fault Refusal :=
  match s.frame with
  | some f =>
    if f.phase = .responding ∧ !s.inReset then .next (s.setFrame (some { f with phase := .trailing }))
    else .next s
  | none => .next s

/-- STATUS: a snapshot taken at the dispatch, in every journal state (R161). -/
def execStatus (f : FrameTail) (s : State) : Host.Outcome State Fault Refusal :=
  dispatch codeStatus f (lengthIs f 0) (fun s => (.ok s.statusData, s)) s

/-- SOFT_RESET is answered OK unless recovery runs; nothing else changes at its dispatch (R160, R164). -/
def State.softReset (s : State) : Reply × State :=
  if s.jc.op = .recovery then (s.busyReply, s) else (⟨.ok, [], true⟩, s)

/-- SOFT_RESET (R164). -/
def execSoftReset (f : FrameTail) (s : State) : Host.Outcome State Fault Refusal :=
  dispatch codeSoftReset f (lengthIs f 0) State.softReset s

/-- UNKNOWN_COMMAND: a frame whose CRC-8 fails or whose code names no command (checks 1 and 2 of R158). A
frame that passes both is an event of its command's own row, and this row does not take it (log 9). -/
def execUnknownCommand (code : Byte) (f : FrameTail) (s : State) : Host.Outcome State Fault Refusal :=
  if crcMatches code f ∧ code ∈ commandCodes then .next s
  else dispatch code f true (fun s => (.bare .unknownCommand, s)) s

end Sys2Proof.Machine
end

