-- ==== Sys2Proof/Machine/HostPorts.lean ====
section
/-! DEFINITION. The meanings of the host ports' events: presentation, policy decision, the completions
of host reads and writes, and the response (R61, R63, R65, R68, R168, R169). -/
namespace Sys2Proof.Machine

open Sys2Proof

/-- The whole transaction is on the bus: a strobe, and for a write every data word with its byte enables
(R168); a transaction with the read strobe brings one set of byte enables. -/
def wholePresentation (q : Presentation) : Bool :=
  if q.rd then decide (q.enables.length = 1)
  else q.wr && decide (q.enables.length = q.bl.toNat + 1) && decide (q.data.length = q.bl.toNat + 1)

/-- The transaction record filled from the bus (R60, R61, R168): both strobes make a read (R170). -/
def presentedTxn (q : Presentation) : Txn where
  kind        := if q.rd then .read else .write
  bothStrobes := q.rd && q.wr
  addr        := q.word.toNat * 4
  len         := q.bl.toNat + 1
  enables     := q.enables
  data        := if q.rd then [] else q.data
  resolution  := none
  reason      := none
  readData    := none
  wasHeld     := false

/-- HOST_PRESENTATION: an IDLE port takes the transaction and enters DECIDING; a port not in IDLE, or a
part in reset, takes none (R61, R168, R171). -/
def execHostPresentation (p : Port) (q : Presentation) (s : State) : Host.Outcome State Fault Refusal :=
  if (s.port p).stage = .idle ∧ !s.inReset ∧ wholePresentation q then
    .next (s.setPort p ⟨.deciding, some (presentedTxn q), none⟩)
  else .next s

/-- POLICY_DECISION: a port in DECIDING takes its decision (R63, R67). -/
def execPolicyDecision (p : Port) (s : State) : Host.Outcome State Fault Refusal := s.take (s.decided p)

/-- The response a transaction gives (R62, R169): ERROR when it holds a refusal reason; the words of a
read. -/
def Txn.response (t : Txn) : BusResponse := ⟨t.reason.isSome, t.readData.getD []⟩

/-- HOST_RESPONSE: the response is given and the port enters IDLE (R62, R169). -/
def execHostResponse (p : Port) (s : State) : Host.Outcome State Fault Refusal :=
  if (s.port p).stage = .responding ∧ !s.inReset then
    .next (s.setPort p ⟨.idle, none, (s.port p).txn.map Txn.response⟩)
  else .next s

/-- A host read's memory operation has completed: the words are held, or with MERR the read ends in
ERROR with zero data (R65, R173). -/
def State.hostReadDone (s : State) (p : Port) (op : MemOp) (merr : Bool) : State :=
  match (s.port p).txn with
  | none => s
  | some t =>
    if merr then s.refuse p t .memoryReadError
    else s.setPort p
      { s.port p with stage := .responding, txn := some { t with readData := some (bytesToWords (s.bytesOf op)) } }

/-- HOST_READ_COMPLETE (R65). -/
def execHostReadComplete (p : Port) (merr : Bool) (s : State) : Host.Outcome State Fault Refusal :=
  match s.inProgress (portRequester p) .hostRead with
  | none => .next s
  | some op => .next (s.occur fun s => (s.release.hostReadDone p op merr).portResponded p)

/-- The engine becomes idle when the host write of its current entry completes (R75, R76, R79). -/
def Engine.hostWriteDone (e : Engine) (p : Port) : Engine :=
  match e.current with
  | some c =>
    if c.entry.port = p ∧ (c.phase = .hit ∨ c.phase = .captured) then { e with current := none } else e
  | none => e

/-- A host write's memory operation has completed: the outcome is OKAY, and the engine may be idle (R68,
R75). -/
def State.hostWriteDone (s : State) (p : Port) : State :=
  match (s.port p).txn with
  | none => s
  | some _ =>
    (s.setPort p { s.port p with stage := .responding }).setEngine (s.engine.hostWriteDone p)

/-- HOST_WRITE_COMPLETE: the write is durable and its port enters RESPONDING with OKAY (R68). -/
def execHostWriteComplete (p : Port) (s : State) : Host.Outcome State Fault Refusal :=
  match s.inProgress (portRequester p) .hostWrite with
  | none => .next s
  | some op => .next (s.occur fun s => ((s.release.storeCells op).hostWriteDone p).portResponded p)

end Sys2Proof.Machine
end

