-- ==== Sys2Proof/Machine/JournalEvents.lean ====
section
/-! DEFINITION. The meanings of the Journal Controller's memory completions: scrub, scan, look-ahead and
rollback (R33, R105, R106, R125 to R128). -/
namespace Sys2Proof.Machine

open Sys2Proof

/-- The write of slot k of a scrub has completed: the next slot is requested, or the caller goes on to
its anchor (R33, R102, R124, R144). -/
def State.scrubbed (s : State) (k : Nat) : State :=
  if k + 1 < s.scrubGeom.count then s.requestScrub (k + 1)
  else
    let s' := s.setJc { s.jc with scrub := none }
    if s.jc.op = .format then s'.startFormatAnchor .firstAnchor else s'.startWrapAnchor

/-- SCRUB_WRITE_COMPLETE (R33). -/
def execScrubWriteComplete (s : State) : Host.Outcome State Fault Refusal :=
  match s.inProgress .journal .scrubWrite, s.jc.scrub with
  | some op, some k => .next (s.occur fun s => (s.release.storeCells op).scrubbed k)
  | _, _ => .next s

/-- SCAN_READ_COMPLETE (R125, R126). -/
def execScanReadComplete (merr : Bool) (s : State) : Host.Outcome State Fault Refusal :=
  match s.inProgress .journal .scanRead, s.jc.scan with
  | some op, some sc => .next (s.occur fun s => s.release.scanSlot sc.pos (s.bytesOf op) merr)
  | _, _ => .next s

/-- LOOK_AHEAD_READ_COMPLETE (R127). -/
def execLookAheadReadComplete (merr : Bool) (s : State) : Host.Outcome State Fault Refusal :=
  match s.inProgress .journal .lookAheadRead, s.jc.scan with
  | some op, some sc => .next (s.occur fun s => s.release.lookAheadSlot sc (s.bytesOf op) merr)
  | _, _ => .next s

/-- A rollback's slot read has completed with `bs` (R105, R106): an applicable record's image is written
to its line; any other moves the rollback on. -/
def State.rollbackSlot (s : State) (rb : Rollback) (bs : List Byte) (merr : Bool) : State :=
  let cls := classify bs merr rb.pos.toNat s.jc.epoch
  if cls = .current ∧ s.restorable (slotLine bs) then
    s.request .journal (.writes .lineWrite (slotLine bs * 64) (slotImage bs))
  else if cls = .unreadable then s.rollTo { rb.countUnread with pos := rb.pos - 1 }
  else s.rollTo { rb.listLine (slotLine bs) with pos := rb.pos - 1 }

/-- ROLLBACK_READ_COMPLETE (R105, R106). -/
def execRollbackReadComplete (merr : Bool) (s : State) : Host.Outcome State Fault Refusal :=
  match s.inProgress .journal .rollbackRead, s.jc.rollback with
  | some op, some rb => .next (s.occur fun s => s.release.rollbackSlot rb (s.bytesOf op) merr)
  | _, _ => .next s

/-- ROLLBACK_LINE_WRITE_COMPLETE: records applied rises by one and the position falls by one (R105). -/
def execRollbackLineWriteComplete (s : State) : Host.Outcome State Fault Refusal :=
  match s.inProgress .journal .lineWrite, s.jc.rollback with
  | some op, some rb =>
    .next (s.occur fun s =>
      (s.release.storeCells op).rollTo { rb with applied := rb.applied + 1, pos := rb.pos - 1 })
  | _, _ => .next s

end Sys2Proof.Machine
end

