-- ==== Sys2Proof/Machine/OperationCommands.lean ====
section
/-! DEFINITION. The meanings of the four operation commands (R16, R17, R99, R104, R108, R110, R141, R144). -/
namespace Sys2Proof.Machine

open Sys2Proof

/-- COMMIT (R16, R17, R99, R104). -/
def execCommit (f : FrameTail) (s : State) : Host.Outcome State Fault Refusal := s.take (s.commitDispatched f)

/-- ABORT (R16, R17, R108, R110). -/
def execAbort (f : FrameTail) (s : State) : Host.Outcome State Fault Refusal := s.take (s.abortDispatched f)

/-- FORMAT (R16, R17, R144). -/
def execFormat (f : FrameTail) (s : State) : Host.Outcome State Fault Refusal := s.take (s.formatDispatched f)

/-- APPLY (R16, R17, R141). -/
def execApply (f : FrameTail) (s : State) : Host.Outcome State Fault Refusal := s.take (s.applyDispatched f)

end Sys2Proof.Machine
end

