-- ==== Sys2Proof/Machine/Reports.lean ====
section
/-! DEFINITION. The meanings of the commands that read the records and govern attention: READ_REPORT,
READ_LAST_OP, READ_FAULT, CLEAR_FAULT, ACK_ATTENTION and SET_ATTENTION_MASK (R160, R162, R163, R166,
R167). -/
namespace Sys2Proof.Machine

open Sys2Proof

/-- A command that is taken outside RECOVERING and receives BUSY there (R160). -/
def State.unlessRecovering (s : State) (body : Reply × State) : Reply × State :=
  if s.jc.state = .recovering then (s.busyReply, s) else body

/-- The recovery report's bytes; the report is present whenever READ_REPORT can be answered (R162,
log 22). -/
def State.reportData (s : State) : List Byte :=
  match s.attn.report with
  | some r => r.data
  | none => []

/-- READ_REPORT (R162). -/
def execReadReport (f : FrameTail) (s : State) : Host.Outcome State Fault Refusal :=
  dispatch codeReadReport f (lengthIs f 0) (fun s => s.unlessRecovering (.ok s.reportData, s)) s

/-- READ_LAST_OP (R162). -/
def execReadLastOp (f : FrameTail) (s : State) : Host.Outcome State Fault Refusal :=
  dispatch codeReadLastOp f (lengthIs f 0) (fun s => s.unlessRecovering (.ok (lastOpData s.jc.lastOp), s)) s

/-- READ_FAULT (R163). -/
def execReadFault (f : FrameTail) (s : State) : Host.Outcome State Fault Refusal :=
  dispatch codeReadFault f (lengthIs f 0) (fun s => s.unlessRecovering (.ok s.attn.faultData, s)) s

/-- The fault record becomes absent and its count 0 (R163). -/
def State.clearFault (s : State) : State := s.setAttn { s.attn with fault := none, count := 0 }

/-- CLEAR_FAULT (R163). -/
def execClearFault (f : FrameTail) (s : State) : Host.Outcome State Fault Refusal :=
  dispatch codeClearFault f (lengthIs f 0) (fun s => s.unlessRecovering (.ok [], s.clearFault)) s

/-- ACK_ATTENTION removes the named causes and answers the pending set after the removal (R166). -/
def State.ackAttention (args : List Byte) (s : State) : Reply × State :=
  match causeSet (args.headD 0) with
  | none => (.bare .invalidArgument, s)
  | some c =>
    let left := s.attn.pending &&& ~~~c
    s.unlessRecovering (.ok [causeByte left], s.setAttn { s.attn with pending := left })

/-- ACK_ATTENTION (R166). -/
def execAckAttention (f : FrameTail) (s : State) : Host.Outcome State Fault Refusal :=
  dispatch codeAckAttention f (lengthIs f 1) (State.ackAttention f.args) s

/-- SET_ATTENTION_MASK replaces the mask whole and answers it (R167). -/
def State.setAttentionMask (args : List Byte) (s : State) : Reply × State :=
  match causeSet (args.headD 0) with
  | none => (.bare .invalidArgument, s)
  | some c => s.unlessRecovering (.ok [causeByte c], s.setAttn { s.attn with mask := c })

/-- SET_ATTENTION_MASK (R167). -/
def execSetAttentionMask (f : FrameTail) (s : State) : Host.Outcome State Fault Refusal :=
  dispatch codeSetAttentionMask f (lengthIs f 1) (State.setAttentionMask f.args) s

end Sys2Proof.Machine
end

