-- ==== Sys2Proof/Machine/Resets.lean ====
section
/-! DEFINITION. The meanings of the reset events: the supply detector and RESET# (R8, R118, R119, R171). -/
namespace Sys2Proof.Machine

open Sys2Proof

/-- POWER_ON_RESET_START: the supply falls below its working level (R118). The start cause recorded is
POWER_ON, also when RESET# is low already (log 11). -/
def execPowerOnResetStart (cut : Nat) (s : State) : Host.Outcome State Fault Refusal :=
  if s.pins.supplyLow then .next s
  else .next ((s.beginReset .powerOn cut).setPins { s.pins with supplyLow := true })

/-- POWER_ON_RESET_END: the supply is at its working level; the straps are sampled, and the reset ends
unless RESET# is low (R43, R118). -/
def execPowerOnResetEnd (msize : BitVec 3) (s : State) : Host.Outcome State Fault Refusal :=
  if !s.pins.supplyLow then .next s
  else if s.pins.resetLow then
    .next ((s.sampleStraps msize).setPins { s.pins with supplyLow := false })
  else
    .next ((((s.sampleStraps msize).setPins { s.pins with supplyLow := false }).endReset).grantNow s.arb)

/-- RESET_PIN_LOW: RESET# goes low (R8, R118, R171). During a power-on reset only the level is followed,
and the start cause stays POWER_ON (log 11). -/
def execResetPinLow (cut : Nat) (s : State) : Host.Outcome State Fault Refusal :=
  if s.pins.resetLow then .next s
  else if s.pins.supplyLow then .next (s.setPins { s.pins with resetLow := true })
  else .next ((s.beginReset .resetPin cut).setPins { s.pins with resetLow := true })

/-- RESET_PIN_HIGH: RESET# returns high; the straps are sampled and the reset ends, unless a power-on
reset still runs (R43, R118). -/
def execResetPinHigh (msize : BitVec 3) (s : State) : Host.Outcome State Fault Refusal :=
  if !s.pins.resetLow then .next s
  else if s.pins.supplyLow then .next (s.setPins { s.pins with resetLow := false })
  else
    .next ((((s.sampleStraps msize).setPins { s.pins with resetLow := false }).endReset).grantNow s.arb)

end Sys2Proof.Machine
end

