-- ==== Sys2Proof/Machine/StagingCommands.lean ====
section
/-! DEFINITION. The meanings of the Configuration Store's commands: STAGE_WRITE, STAGE_READ and VALIDATE
(R137 to R140). -/
namespace Sys2Proof.Machine

open Sys2Proof

/-- In these journal states the staging image may not change (check 4 of R137, R140). -/
def State.stagingLocked (s : State) : Bool :=
  decide (s.jc.state = .recovering ∨ s.jc.state = .applying ∨ s.jc.state = .formatting)

/-- STAGE_WRITE replaces one item and sets DRAFT (R137). -/
def State.stageWrite (args : List Byte) (s : State) : Reply × State :=
  match parseStageItem args with
  | none => (.bare .invalidArgument, s)
  | some item =>
    if s.stagingLocked then (s.busyReply, s) else (.ok [], s.setStore (s.store.stage item))

/-- STAGE_WRITE (R137). Its argument length depends on its item, which `parseStageItem` checks. -/
def execStageWrite (f : FrameTail) (s : State) : Host.Outcome State Fault Refusal :=
  dispatch codeStageWrite f true (State.stageWrite f.args) s

/-- STAGE_READ returns one item and the staging state (R138, R178). -/
def State.stageRead (args : List Byte) (s : State) : Reply × State :=
  match s.store.item (args.headD 0) with
  | none => (.bare .invalidArgument, s)
  | some item =>
    if s.jc.state = .recovering then (s.busyReply, s)
    else (.ok (item.bytes ++ [s.store.staging.code]), s)

/-- STAGE_READ (R138). -/
def execStageRead (f : FrameTail) (s : State) : Host.Outcome State Fault Refusal :=
  dispatch codeStageRead f (lengthIs f 1) (State.stageRead f.args) s

/-! ## The checks of VALIDATE (R139) -/

/-- An enabled window fails check 3 when its first line is above its last. -/
def Window.disordered (w : Window) : Bool := w.policy.isSome && decide (w.first > w.last)

/-- An enabled window fails check 4 when its last line is not below memory lines. -/
def Window.outside (m : MemSize) (w : Window) : Bool := w.policy.isSome && decide (m.lines ≤ w.last)

/-- An enabled window fails check 5 when it covers a line of the staged journal extent or of the anchor
area. -/
def Window.reserved (m : MemSize) (g : Geometry) (w : Window) : Bool :=
  w.policy.isSome && decide (w.first ≤ w.last)
    && (decide (w.first < g.base + g.extentLines ∧ g.base ≤ w.last)
        || decide (w.first < m.lines ∧ m.anchorFirst ≤ w.last))

/-- The lowest-numbered window that fails a check (R139). -/
def failingWindow (ws : List Window) (fails : Window → Bool) : Option Nat := ws.findIdx? fails

/-- The first check of R139 that fails, with the window number for checks 3 to 5. -/
def validateImage (m : MemSize) (g : Geometry) (c : Setup) : Option (Nat × Option Nat) :=
  if !g.countLegal then some (1, none)
  else if !g.fits m then some (2, none)
  else match failingWindow c.windows Window.disordered with
    | some n => some (3, some n)
    | none => match failingWindow c.windows (Window.outside m) with
      | some n => some (4, some n)
      | none => match failingWindow c.windows (Window.reserved m g) with
        | some n => some (5, some n)
        | none => if c.alert ≤ g.count then none else some (6, none)

/-- The data of INVALID_CONFIGURATION (R178). -/
def checkData : Nat × Option Nat → List Byte
  | (code, some n) => [BitVec.ofNat 8 code, BitVec.ofNat 8 n]
  | (code, none) => [BitVec.ofNat 8 code]

/-- VALIDATE sets READY, or DRAFT and reports the first failing check (R140). -/
def State.validate (s : State) : Reply × State :=
  if s.stagingLocked then (s.busyReply, s)
  else match validateImage s.memSize s.store.stagedGeom s.store.staged with
    | none => (.ok [], s.setStore { s.store with staging := .ready })
    | some x => (⟨.invalidConfiguration, checkData x, false⟩, s.setStore { s.store with staging := .draft })

/-- VALIDATE (R140). -/
def execValidate (f : FrameTail) (s : State) : Host.Outcome State Fault Refusal :=
  dispatch codeValidate f (lengthIs f 0) State.validate s

end Sys2Proof.Machine
end

