-- ==== Sys2Proof/Machine/Dispatch.lean ====
section
/-! DEFINITION. Which meaning each command has: one arm per constructor of Instr. -/
namespace Sys2Proof.Machine
open Sys2Proof

def exec (i : Instr) (s : State) : Host.Outcome State Fault Refusal :=
  match i with
  | .powerOnResetStart cut => Sys2Proof.Machine.execPowerOnResetStart cut s
  | .powerOnResetEnd msize => Sys2Proof.Machine.execPowerOnResetEnd msize s
  | .resetPinLow cut => Sys2Proof.Machine.execResetPinLow cut s
  | .resetPinHigh msize => Sys2Proof.Machine.execResetPinHigh msize s
  | .pfailFall => Sys2Proof.Machine.execPfailFall s
  | .pfailRise => Sys2Proof.Machine.execPfailRise s
  | .frameOpen => Sys2Proof.Machine.execFrameOpen s
  | .frameClose cut => Sys2Proof.Machine.execFrameClose cut s
  | .status f => Sys2Proof.Machine.execStatus f s
  | .commit f => Sys2Proof.Machine.execCommit f s
  | .abort f => Sys2Proof.Machine.execAbort f s
  | .format f => Sys2Proof.Machine.execFormat f s
  | .apply f => Sys2Proof.Machine.execApply f s
  | .stageWrite f => Sys2Proof.Machine.execStageWrite f s
  | .stageRead f => Sys2Proof.Machine.execStageRead f s
  | .validate f => Sys2Proof.Machine.execValidate f s
  | .releaseFence f => Sys2Proof.Machine.execReleaseFence f s
  | .readReport f => Sys2Proof.Machine.execReadReport f s
  | .readLastOp f => Sys2Proof.Machine.execReadLastOp f s
  | .readFault f => Sys2Proof.Machine.execReadFault f s
  | .clearFault f => Sys2Proof.Machine.execClearFault f s
  | .ackAttention f => Sys2Proof.Machine.execAckAttention f s
  | .setAttentionMask f => Sys2Proof.Machine.execSetAttentionMask f s
  | .softReset f => Sys2Proof.Machine.execSoftReset f s
  | .unknownCommand code f => Sys2Proof.Machine.execUnknownCommand code f s
  | .hostPresentation p q => Sys2Proof.Machine.execHostPresentation p q s
  | .policyDecision p => Sys2Proof.Machine.execPolicyDecision p s
  | .hostResponse p => Sys2Proof.Machine.execHostResponse p s
  | .hostReadComplete p merr => Sys2Proof.Machine.execHostReadComplete p merr s
  | .hostWriteComplete p => Sys2Proof.Machine.execHostWriteComplete p s
  | .captureTake => Sys2Proof.Machine.execCaptureTake s
  | .lineReadComplete merr => Sys2Proof.Machine.execLineReadComplete merr s
  | .slotReservation => Sys2Proof.Machine.execSlotReservation s
  | .recordWriteComplete => Sys2Proof.Machine.execRecordWriteComplete s
  | .filterInsertion => Sys2Proof.Machine.execFilterInsertion s
  | .anchorReadFirstPartComplete merr => Sys2Proof.Machine.execAnchorReadFirstPartComplete merr s
  | .anchorReadComplete merr => Sys2Proof.Machine.execAnchorReadComplete merr s
  | .anchorWriteFirstPartComplete => Sys2Proof.Machine.execAnchorWriteFirstPartComplete s
  | .anchorWriteComplete => Sys2Proof.Machine.execAnchorWriteComplete s
  | .scrubWriteComplete => Sys2Proof.Machine.execScrubWriteComplete s
  | .scanReadComplete merr => Sys2Proof.Machine.execScanReadComplete merr s
  | .lookAheadReadComplete merr => Sys2Proof.Machine.execLookAheadReadComplete merr s
  | .rollbackReadComplete merr => Sys2Proof.Machine.execRollbackReadComplete merr s
  | .rollbackLineWriteComplete => Sys2Proof.Machine.execRollbackLineWriteComplete s
  | .responseSentInFull => Sys2Proof.Machine.execResponseSentInFull s

end Sys2Proof.Machine
end

