-- ==== Sys2Proof/Machine/Step.lean ====
section
/-! DEFINITION. One step of the block: the command at the front of the queue is taken. -/
namespace Sys2Proof.Machine

open Sys2Proof

/-- Takes the command at the front of the queue; on an empty queue the part idles, since nothing in it
happens but at an event of the table (log 1). -/
def step (s : State) : Host.Outcome State Fault Refusal :=
  match s.pending with
  | [] => .next s
  | i :: rest => exec i (s.setPending rest)

/-- Puts the command a word of the table spells at the front of the queue; the table gives no bits, so
every word leaves s as it is. -/
def State.withFetchWord (s : State) (nbits w : Nat) : State :=
  match decodeTableWord nbits w with
  | some i => s.setPending (i :: s.pending)
  | none => s

end Sys2Proof.Machine
end

