-- ==== Sys2Proof/Safety.lean ====
section
/-! DEFINITION. What holds of a part at every command: the invariants the statements speak of, each with
the rules of spec/ it follows. -/
namespace Sys2Proof.Machine

open Sys2Proof

/-! ## What a requester has outstanding (R174) -/

/-- A requester's memory operation, pending at the arbiter or in progress at the memory port (R174). -/
def Arbiter.outstanding (arb : Arbiter) (r : Requester) : Option MemOp :=
  match arb.request r with
  | some op => some op
  | none =>
    match arb.current with
    | some (r', op) => if r' = r then some op else none
    | none => none

def State.outstanding (s : State) (r : Requester) : Option MemOp := s.arb.outstanding r

/-- The requester that issues operations of a purpose (spec/12 section 12.3); either host port for the two
host purposes. -/
def Purpose.servedBy (p : Purpose) (r : Requester) : Bool :=
  match p with
  | .hostRead => decide (r = .portA ∨ r = .portB)
  | .hostWrite => decide (r = .portA ∨ r = .portB)
  | .lineRead => decide (r = .capture)
  | .recordWrite => decide (r = .capture)
  | .anchorReadFirst => decide (r = .journal)
  | .anchorReadSecond => decide (r = .journal)
  | .anchorWriteFirst => decide (r = .journal)
  | .anchorWriteSecond => decide (r = .journal)
  | .scrubWrite => decide (r = .journal)
  | .scanRead => decide (r = .journal)
  | .lookAheadRead => decide (r = .journal)
  | .rollbackRead => decide (r = .journal)
  | .lineWrite => decide (r = .journal)

/-- The memory port never idles beside a pending request (R174). -/
def State.grantsMade (s : State) : Prop := s.arb.current = none → ∀ r, s.arb.request r = none

/-- The grant pointer names the requester in progress, and every operation serves a purpose of its requester (R172,
R174). -/
def State.arbiterServes (s : State) : Prop :=
  (∀ r op, s.arb.current = some (r, op) → s.arb.pointer = r ∧ op.purpose.servedBy r = true)
    ∧ ∀ r op, s.arb.request r = some op → op.purpose.servedBy r = true

/-- Both hold of the arbiter (R172, R174). -/
def State.arbiterSound (s : State) : Prop := s.grantsMade ∧ s.arbiterServes

/-- The next step brings a request of a requester that has none (R174, log 29). -/
def State.awaitsRequest (s : State) : Prop :=
  ∃ u r, step s = .next u ∧ s.outstanding r = none ∧ u.outstanding r ≠ none

/-! ## The long operation (R15) -/

/-- The long operation a journal state is tied to (R15). -/
def JournalState.longOp : JournalState → LongOp
  | .recovering => .recovery
  | .unformatted => .none
  | .active => .none
  | .committing => .commit
  | .applying => .apply
  | .aborting => .abort
  | .formatting => .format
  | .damaged => .none

/-- The long operation in progress is the one of the journal state (R15). -/
def State.operationSound (s : State) : Prop := s.jc.op = s.jc.state.longOp

/-! ## The Capture Filter (R48, R54) -/

/-- No line twice, at most 1,024 lines, and exactly 1,024 while SATURATED is set (R48, R54). -/
def State.filterSound (s : State) : Prop :=
  s.filter.lines.Nodup ∧ s.filter.lines.length ≤ filterCapacity
    ∧ (s.filter.saturated = true → s.filter.lines.length = filterCapacity)

/-! ## The Fence Unit (R148, R155) -/

/-- The Anchor Unit is reading the copies, which happens before recovery loads an anchor (R88). -/
def Anchors.reading (u : Anchors) : Bool :=
  match u.op with
  | some (.readFirst _) => true
  | some (.readSecond _ _ _) => true
  | some (.writeFirst _ _ _) => false
  | some (.writeSecond _ _) => false
  | none => false

/-- Outside a reset the fence state is FENCED exactly while PFAIL# is low (R148); FENCE_LATCHED comes with
release mode LATCHED alone (R155); and until recovery has read the anchors the mode is LEVEL (R148). -/
def State.fenceSound (s : State) : Prop :=
  (s.inReset = false → (s.fence.state = .fenced ↔ s.pins.pfailLow = true))
    ∧ (s.fence.state = .latched → s.fence.mode = .latched)
    ∧ (s.anchors.reading = true → s.fence.mode = .level)

/-! ## The copies of the active configuration (R41, R45, R135, R148) -/

/-- The Policy Decoder, the Fence Unit and the Journal Controller hold their parts of the active
configuration, and during a reset it is the reset configuration (R38, R42, R135, R148). -/
def State.copiesSound (s : State) : Prop :=
  s.decoder = Decoder.load s.memSize s.store.geom s.store.active
    ∧ s.jc.geom = s.store.geom
    ∧ s.fence.action = s.store.active.action ∧ s.fence.mode = s.store.active.mode
    ∧ (s.inReset = true → s.store.geom = none ∧ s.store.active = Setup.reset)

/-! ## The host ports (R60, R69) -/

/-- A port's record is absent in IDLE alone, and a held transaction is a write without a resolution, marked as
held (R60, R69). -/
def HostPort.sound (x : HostPort) : Prop :=
  (x.stage = .idle ↔ x.txn = none)
    ∧ (x.stage = .held → ∀ t, x.txn = some t → t.kind = .write ∧ t.resolution = none ∧ t.wasHeld = true)

/-- Both ports (R60, R69). -/
def State.portsSound (s : State) : Prop := s.portA.sound ∧ s.portB.sound

/-! ## Held writes (R69 to R71) -/

/-- A holding cause is in force (R69). -/
def State.holding (s : State) : Prop :=
  s.pathMode = .writeHold ∨ (s.fence.state ≠ .normal ∧ s.fence.action = .hold)

/-- A scan or a rollback is in progress in an ABORT or a recovery alone, and the anchors are read in a
recovery that does neither yet (R98, R120, R125). -/
def State.examining (s : State) : Prop :=
  (s.jc.scan ≠ none ∨ s.jc.rollback ≠ none → s.jc.op = .abort ∨ s.jc.op = .recovery)
    ∧ (s.anchors.reading = true → s.jc.op = .recovery ∧ s.jc.scan = none ∧ s.jc.rollback = none)

/-- No write is held without a holding cause, and none in RECOVERING; and a decision to retake stands open only with
no long operation in progress and the fence NORMAL (R17, R70, R71, R121, R151). -/
def State.holdsSound (s : State) : Prop :=
  s.operationSound ∧ s.examining
    ∧ ∀ p, ((s.port p).stage = .held → s.holding ∧ s.jc.state ≠ .recovering)
      ∧ (s.retaking p = true → s.jc.op = .none ∧ s.fence.state = .normal)

/-! ## The work of the Journal Controller (R15, R98, R99, R120) -/

/-- The Journal Controller has one operation of the purpose outstanding at the arbiter (R174). -/
def State.journalDoes (s : State) (p : Purpose) : Prop :=
  ∃ op, s.outstanding .journal = some op ∧ op.purpose = p

/-- The copy read or write under way has its own part outstanding (R85, R86). -/
def State.anchorWork (s : State) : Prop :=
  match s.anchors.op with
  | some (.readFirst _) => s.journalDoes .anchorReadFirst
  | some (.readSecond _ _ _) => s.journalDoes .anchorReadSecond
  | some (.writeFirst _ _ _) => s.journalDoes .anchorWriteFirst
  | some (.writeSecond _ _) => s.journalDoes .anchorWriteSecond
  | none => s.outstanding .journal = none

/-- What the Journal Controller works at in each step: which items it holds, and the one memory operation
it has outstanding; in no step, and while it drains, it has none (R15, R82, R98, R99, R120). -/
def State.stepWork (s : State) : Prop :=
  match s.jc.step with
  | none =>
    s.jc.scan = none ∧ s.jc.scrub = none ∧ s.jc.rollback = none ∧ s.jc.drain = []
      ∧ s.anchors.op = none ∧ s.outstanding .journal = none
      ∧ (s.inReset = false → s.jc.op = .none)
  | some .draining =>
    s.jc.scan = none ∧ s.jc.scrub = none ∧ s.jc.rollback = none ∧ s.jc.drain ≠ []
      ∧ s.anchors.op = none ∧ s.outstanding .journal = none
      ∧ s.jc.op ≠ .none ∧ s.jc.op ≠ .recovery
  | some .anchorSearch =>
    s.jc.scan = none ∧ s.jc.scrub = none ∧ s.jc.rollback = none ∧ s.jc.drain = []
      ∧ s.anchors.reading = true ∧ s.anchorWork ∧ s.jc.op = .recovery
  | some .scanning =>
    s.jc.scrub = none ∧ s.jc.rollback = none ∧ s.jc.drain = [] ∧ s.anchors.op = none
      ∧ (∃ sc, s.jc.scan = some sc
          ∧ s.journalDoes (if sc.lookAhead then .lookAheadRead else .scanRead))
      ∧ s.jc.op = .recovery
  | some .rescanning =>
    s.jc.scrub = none ∧ s.jc.rollback = none ∧ s.jc.drain = [] ∧ s.anchors.op = none
      ∧ (∃ sc, s.jc.scan = some sc
          ∧ s.journalDoes (if sc.lookAhead then .lookAheadRead else .scanRead))
      ∧ s.jc.op = .abort
  | some .rollingBack =>
    s.jc.scan = none ∧ s.jc.scrub = none ∧ s.jc.drain = [] ∧ s.anchors.op = none
      ∧ (∃ rb, s.jc.rollback = some rb ∧ 0 ≤ rb.pos
          ∧ (s.journalDoes .rollbackRead ∨ s.journalDoes .lineWrite))
      ∧ (s.jc.op = .abort ∨ s.jc.op = .recovery)
  | some .scrubbing =>
    s.jc.scan = none ∧ s.jc.drain = [] ∧ s.anchors.op = none
      ∧ s.jc.scrub ≠ none ∧ s.journalDoes .scrubWrite
      ∧ s.jc.op ≠ .none ∧ s.jc.op ≠ .apply
      ∧ (s.jc.rollback ≠ none → s.jc.op = .abort ∨ s.jc.op = .recovery)
  | some .advancing =>
    s.jc.scan = none ∧ s.jc.scrub = none ∧ s.jc.drain = []
      ∧ s.anchors.op ≠ none ∧ s.anchors.reading = false ∧ s.anchorWork
      ∧ (s.jc.op = .commit ∨ s.jc.op = .abort ∨ s.jc.op = .recovery)
      ∧ (s.jc.rollback ≠ none → s.jc.op = .abort ∨ s.jc.op = .recovery)
  | some .wrapAnchor =>
    s.jc.scan = none ∧ s.jc.scrub = none ∧ s.jc.drain = []
      ∧ s.anchors.op ≠ none ∧ s.anchors.reading = false ∧ s.anchorWork
      ∧ (s.jc.op = .commit ∨ s.jc.op = .abort ∨ s.jc.op = .recovery)
      ∧ (s.jc.rollback ≠ none → s.jc.op = .abort ∨ s.jc.op = .recovery)
  | some .applyAnchor =>
    s.jc.scan = none ∧ s.jc.scrub = none ∧ s.jc.rollback = none ∧ s.jc.drain = []
      ∧ s.anchors.op ≠ none ∧ s.anchors.reading = false ∧ s.anchorWork ∧ s.jc.op = .apply
  | some .firstAnchor =>
    s.jc.scan = none ∧ s.jc.scrub = none ∧ s.jc.rollback = none ∧ s.jc.drain = []
      ∧ s.anchors.op ≠ none ∧ s.anchors.reading = false ∧ s.anchorWork ∧ s.jc.op = .format
  | some .secondAnchor =>
    s.jc.scan = none ∧ s.jc.scrub = none ∧ s.jc.rollback = none ∧ s.jc.drain = []
      ∧ s.anchors.op ≠ none ∧ s.anchors.reading = false ∧ s.anchorWork ∧ s.jc.op = .format

/-- The Journal Controller has at most one operation at the arbiter, works at the one thing its step
names, works at nothing during a reset, in which the journal state is RECOVERING, and the long operation is the one
of the journal state (R8, R15, R98, R118, R120, R174). -/
def State.workSound (s : State) : Prop :=
  s.stepWork ∧ s.operationSound
    ∧ (s.inReset = true → s.jc.step = none ∧ s.jc.state = .recovering)
    ∧ (∀ op, s.arb.current = some (.journal, op) → s.arb.journal = none)

/-! ## The service of host transactions (R60, R74, R75, R82) -/

/-- The memory operation of a transaction in IN_MEMORY (R65, R68). -/
def Txn.memOp (t : Txn) : MemOp :=
  match t.kind with
  | .read => t.readOp
  | .write => t.writeOp

/-- The current entry's write has been handed back to its port (R75). -/
def Current.handedBack (c : Current) : Bool := c.phase == .hit || c.phase == .captured

/-- The ports whose writes the Capture Engine has yet to hand back or refuse: the queue's, and the capture
in flight (R74, R75). -/
def Engine.waiting (e : Engine) : List Port :=
  (match e.current with
    | some c => if c.handedBack then [] else [c.entry.port]
    | none => [])
    ++ e.queue.map Entry.port

/-- The Capture Engine has its line read outstanding in READING, its record write in WRITING_RECORD, and
nothing otherwise (R75, R77, R78). -/
def State.captureWork (s : State) : Prop :=
  match s.engine.current with
  | some ⟨e, .reading⟩ => s.outstanding .capture = some (lineReadOp e.line)
  | some ⟨_, .writing _⟩ => ∃ op, s.outstanding .capture = some op ∧ op.purpose = .recordWrite
  | some ⟨_, .hit⟩ => s.outstanding .capture = none
  | some ⟨_, .reserving _⟩ => s.outstanding .capture = none
  | some ⟨_, .inserting _⟩ => s.outstanding .capture = none
  | some ⟨_, .captured⟩ => s.outstanding .capture = none
  | none => s.outstanding .capture = none

/-- What serves one port: in IN_MEMORY its own memory operation is outstanding, in no other stage has it
one, and it is in CAPTURE_WAIT exactly while the Capture Engine has its write (R60, R74). -/
def State.portServed (s : State) (p : Port) : Prop :=
  ((s.port p).stage = .inMemory →
      ∃ t, (s.port p).txn = some t ∧ s.outstanding (portRequester p) = some t.memOp)
    ∧ ((s.port p).stage ≠ .inMemory → s.outstanding (portRequester p) = none)
    ∧ ((s.port p).stage = .captureWait ↔ p ∈ s.engine.waiting)
    ∧ ((s.port p).stage = .captureWait → ∃ t, (s.port p).txn = some t ∧ t.kind = .write)

/-- Every host transaction past its policy decision is being served, no port's write stands twice with the
Capture Engine, each requester has at most one operation at the arbiter, and the drain waits only for
transactions that are being served (R60, R74, R75, R82, R174). -/
def State.serviceSound (s : State) : Prop :=
  (∀ p, s.portServed p) ∧ s.engine.waiting.Nodup ∧ s.captureWork
    ∧ (∀ c, s.engine.current = some c → c.handedBack = true →
        (s.port c.entry.port).stage = .inMemory
          ∧ ∃ t, (s.port c.entry.port).txn = some t ∧ t.kind = .write)
    ∧ (∀ r op, s.arb.current = some (r, op) → s.arb.request r = none)
    ∧ ∀ p ∈ s.jc.drain, (s.port p).stage = .captureWait ∨ (s.port p).stage = .inMemory

/-! ## The reserved area and the journal (R18, R25, R26, R39, R49, R80) -/

/-- Both configurations of the store have the eight windows of R35. -/
def State.eightWindows (s : State) : Prop :=
  s.store.active.windows.length = 8 ∧ s.store.staged.windows.length = 8

/-- A journal geometry is legal for the part: 16 to 49,152 slots, and a journal extent that ends below the
anchor area (R18). -/
def Geometry.lawful (g : Geometry) (m : MemSize) : Prop :=
  16 ≤ g.count ∧ g.count ≤ 49152 ∧ g.base + (g.count * 5 + 3) / 4 ≤ m.lines - 4

/-- The active geometry, that of a READY staging image and that of a copy held for the selection are legal for
the part, FORMAT runs with a READY image, and a reset leaves neither an image nor a copy (R18, R87, R119, R139,
R144). Without a geometry the configuration is the reset configuration, and the part is recovering from before
the selection, UNFORMATTED, or in its FORMAT (R5, R18, R42). -/
def State.geometrySound (s : State) : Prop :=
  s.eightWindows
    ∧ (∀ g, s.jc.geom = some g → g.lawful s.memSize)
    ∧ (s.store.staging = .ready → s.store.stagedGeom.lawful s.memSize)
    ∧ (s.jc.op = .format → s.store.staging = .ready)
    ∧ (∀ a, s.anchors.heldA = some a → a.geom.lawful s.memSize ∧ a.setup.windows.length = 8)
    ∧ (s.inReset = true → s.store.staging = .draft ∧ s.anchors.heldA = none)
    ∧ (s.jc.geom = none → s.store.active = Setup.reset
        ∧ (s.jc.state = .unformatted ∨ s.jc.state = .formatting
          ∨ (s.jc.state = .recovering ∧ (s.jc.step = none ∨ s.jc.step = some .anchorSearch))))

/-- A transaction is on whole words, and a write carries its enables and data for each word (R60, R168). -/
def Txn.whole (x : Txn) : Prop :=
  x.addr % 4 = 0 ∧ (x.kind = .write → x.enables.length = x.len ∧ x.data.length = x.len)

/-- A host write past its policy decision: in CAPTURE_WAIT or IN_MEMORY (R60). -/
def State.inFlight (s : State) (p : Port) (x : Txn) : Prop :=
  (s.port p).txn = some x ∧ x.kind = .write
    ∧ ((s.port p).stage = .captureWait ∨ (s.port p).stage = .inMemory)

/-- No host write past its policy decision lies in the reserved area (R39): it stays in the 32-byte block of its
address, in range, and its line resolves to the policy and window it holds. There is one only with the path OPEN
or while a drain waits for it (R57, R63, R82). -/
def State.writesSound (s : State) : Prop :=
  (∀ p x, (s.port p).txn = some x → x.whole)
    ∧ ∀ p x, s.inFlight p x →
      s.inReset = false
      ∧ (s.jc.state = .unformatted ∨ s.jc.state = .active ∨ (s.jc.step = some .draining ∧ p ∈ s.jc.drain))
      ∧ x.addr / 4 % 8 + x.len ≤ 8 ∧ x.addr < s.memSize.lines * 64
      ∧ ∃ pol w, x.resolution = some (.covered pol w) ∧ s.decoder.resolve (x.addr / 64) = .covered pol w

/-- The byte address of slot k (R19). -/
def slotAt (g : Geometry) (k : Nat) : Nat := g.base * 64 + k * 80

/-- The 80 bytes memory holds for slot k (R19). -/
def State.slot (s : State) (g : Geometry) (k : Nat) : List Byte := s.mem.readBytes (slotAt g k) 80

/-- Slot k holds a complete capture record of the current epoch with index k (R24, R26). -/
def State.holdsRecord (s : State) (g : Geometry) (k : Nat) : Prop :=
  classify (s.slot g k) false k s.jc.epoch = .current

/-- A slot below the fill count holds the record of line l (R49, R80). -/
def State.hasRecord (s : State) (l : Nat) : Prop :=
  ∃ g k, s.jc.geom = some g ∧ k < s.jc.fill ∧ slotLine (s.slot g k) = l

/-- A memory write that stores nothing in the journal extent (R19). -/
def MemOp.clearOf (op : MemOp) (g : Geometry) : Prop :=
  op.addr + op.cells.length ≤ addressSpace
    ∧ (op.addr + op.cells.length ≤ g.base * 64
      ∨ (g.base + (g.count * 5 + 3) / 4) * 64 ≤ op.addr)

/-- The entries whose writes the Capture Engine has yet to hand back or refuse (R74, R75). -/
def Engine.entries (e : Engine) : List Entry :=
  (match e.current with
    | some c => if c.handedBack then [] else [c.entry]
    | none => [])
    ++ e.queue

/-- Each entry is of its port's JOURNALED write, and the capture in flight is of the slot at the fill count
(R28, R74, R77 to R79). -/
def State.captureSound (s : State) : Prop :=
  (∀ e ∈ s.engine.entries, ∃ x, (s.port e.port).txn = some x ∧ x.addr / 64 = e.line
      ∧ x.resolution = some (.covered .journaled e.window))
    ∧ (∀ e image, s.engine.current = some ⟨e, .reserving image⟩ → image.length = 64)
    ∧ (∀ e k, s.engine.current = some ⟨e, .writing k⟩ →
        ∃ g image, s.jc.geom = some g ∧ k = s.jc.fill ∧ k < g.count ∧ image.length = 64
          ∧ s.outstanding .capture = some
              ⟨.recordWrite, slotAt g k, 20, (captureRecord e.window k e.line s.jc.epoch image).map some⟩)
    ∧ ∀ e k, s.engine.current = some ⟨e, .inserting k⟩ → s.hasRecord e.line

/-- What the Journal Controller has at the arbiter spares the records: a scrub has emptied fill first, and a
line's restored image and an anchor lie outside the journal extent (R33, R38, R85, R106). -/
def State.sparesRecords (s : State) : Prop :=
  (∀ c n rest, s.anchors.op = some (.writeFirst c n rest) → rest.length = 20)
    ∧ ∀ op, s.outstanding .journal = some op → op.purpose.isWrite = true →
      if op.purpose = .scrubWrite then s.jc.fill = 0 else ∀ g, s.jc.geom = some g → op.clearOf g

/-- The scan stands at a slot of the journal and below it has met current records alone; it reads that slot, or
looks ahead of it (R125). Before the selection fill is 0 (R25, R119). -/
def State.scanSound (s : State) : Prop :=
  (s.anchors.reading = true → s.jc.fill = 0)
    ∧ ∀ sc, s.jc.scan = some sc → ∃ g, s.jc.geom = some g ∧ sc.pos < g.count
      ∧ (∀ k, k < sc.pos → s.holdsRecord g k)
      ∧ (sc.lookAhead = false → s.outstanding .journal = some ⟨.scanRead, slotAt g sc.pos, 20, []⟩)

/-- The laws of the journal: fill lies from 0 to the active slot count (R25); each slot below it holds a complete
capture record of the current epoch with its own index (R26); every line in the filter has such a record (R49);
and so has the line of every host write in IN_MEMORY whose resolved policy is JOURNALED (R80). With them, what
the captures, the scan and the memory writes under way keep of them. -/
def State.journalSound (s : State) : Prop :=
  (match s.jc.geom with
    | some g => s.jc.fill ≤ g.count
    | none => s.jc.fill = 0)
    ∧ (∀ g k, s.jc.geom = some g → k < s.jc.fill → s.holdsRecord g k)
    ∧ (∀ l ∈ s.filter.lines, s.hasRecord l)
    ∧ (∀ p x w, s.inFlight p x → (s.port p).stage = .inMemory →
        x.resolution = some (.covered .journaled w) → s.hasRecord (x.addr / 64))
    ∧ s.captureSound ∧ s.sparesRecords ∧ s.scanSound

/-! ## Terms of the statements -/

/-- The invariants every command keeps, with the memory's canonical form. -/
def State.sound (s : State) : Prop :=
  s.mem.wf ∧ s.filterSound ∧ s.fenceSound ∧ s.copiesSound ∧ s.arbiterServes ∧ s.portsSound ∧ s.holdsSound
    ∧ s.workSound ∧ s.serviceSound

/-- A frame is taking bytes, outside a reset (R156). -/
def State.takesBytes (s : State) : Prop :=
  s.inReset = false ∧ ∃ k, s.frame = some k ∧ k.phase = .receiving

/-- The CRC-8 byte received is the one computed over code, length and arguments (R158, R177). -/
def goodCrc (code : Byte) (f : FrameTail) : Bool :=
  f.crc == crc8 (code :: BitVec.ofNat 8 f.args.length :: f.args)

/-- A frame answered with a result and its data: what the frame in progress holds from its dispatch on, with
the response bytes of R156, R159 and R177 in sending order. -/
def answered (code : Byte) (f : FrameTail) (r : Result) (data : List Byte) (soft : Bool := false) :
    Option Frame :=
  some {
    phase := .responding
    kept := f.args.take 40
    crc := crc8 (code :: BitVec.ofNat 8 f.args.length :: f.args)
    response := [0xFF, r.code, BitVec.ofNat 8 data.length] ++ data
      ++ [crc8 ([r.code, BitVec.ofNat 8 data.length] ++ data)]
    softReset := soft }

/-- The code and the rest of the frame that a row of a management frame carries (R177); the other rows
carry none. -/
def frameOf : Instr → Option (Byte × FrameTail)
  | .status f => some (0x01, f)
  | .commit f => some (0x10, f)
  | .abort f => some (0x11, f)
  | .format f => some (0x12, f)
  | .apply f => some (0x13, f)
  | .stageWrite f => some (0x20, f)
  | .stageRead f => some (0x21, f)
  | .validate f => some (0x22, f)
  | .releaseFence f => some (0x30, f)
  | .readReport f => some (0x40, f)
  | .readLastOp f => some (0x41, f)
  | .readFault f => some (0x42, f)
  | .clearFault f => some (0x43, f)
  | .ackAttention f => some (0x50, f)
  | .setAttentionMask f => some (0x51, f)
  | .softReset f => some (0x5A, f)
  | .unknownCommand code f => some (code, f)
  | .powerOnResetStart _ => none
  | .powerOnResetEnd _ => none
  | .resetPinLow _ => none
  | .resetPinHigh _ => none
  | .pfailFall => none
  | .pfailRise => none
  | .frameOpen => none
  | .frameClose _ => none
  | .hostPresentation _ _ => none
  | .policyDecision _ => none
  | .hostResponse _ => none
  | .hostReadComplete _ _ => none
  | .hostWriteComplete _ => none
  | .captureTake => none
  | .lineReadComplete _ => none
  | .slotReservation => none
  | .recordWriteComplete => none
  | .filterInsertion => none
  | .anchorReadFirstPartComplete _ => none
  | .anchorReadComplete _ => none
  | .anchorWriteFirstPartComplete => none
  | .anchorWriteComplete => none
  | .scrubWriteComplete => none
  | .scanReadComplete _ => none
  | .lookAheadReadComplete _ => none
  | .rollbackReadComplete _ => none
  | .rollbackLineWriteComplete => none
  | .responseSentInFull => none

/-- The memory operation whose completion a command is (R172). -/
def completionOf : Instr → Option Purpose
  | .powerOnResetStart _ => none
  | .powerOnResetEnd _ => none
  | .resetPinLow _ => none
  | .resetPinHigh _ => none
  | .pfailFall => none
  | .pfailRise => none
  | .frameOpen => none
  | .frameClose _ => none
  | .status _ => none
  | .commit _ => none
  | .abort _ => none
  | .format _ => none
  | .apply _ => none
  | .stageWrite _ => none
  | .stageRead _ => none
  | .validate _ => none
  | .releaseFence _ => none
  | .readReport _ => none
  | .readLastOp _ => none
  | .readFault _ => none
  | .clearFault _ => none
  | .ackAttention _ => none
  | .setAttentionMask _ => none
  | .softReset _ => none
  | .unknownCommand _ _ => none
  | .hostPresentation _ _ => none
  | .policyDecision _ => none
  | .hostResponse _ => none
  | .hostReadComplete _ _ => some .hostRead
  | .hostWriteComplete _ => some .hostWrite
  | .captureTake => none
  | .lineReadComplete _ => some .lineRead
  | .slotReservation => none
  | .recordWriteComplete => some .recordWrite
  | .filterInsertion => none
  | .anchorReadFirstPartComplete _ => some .anchorReadFirst
  | .anchorReadComplete _ => some .anchorReadSecond
  | .anchorWriteFirstPartComplete => some .anchorWriteFirst
  | .anchorWriteComplete => some .anchorWriteSecond
  | .scrubWriteComplete => some .scrubWrite
  | .scanReadComplete _ => some .scanRead
  | .lookAheadReadComplete _ => some .lookAheadRead
  | .rollbackReadComplete _ => some .rollbackRead
  | .rollbackLineWriteComplete => some .lineWrite
  | .responseSentInFull => none

/-- A command is an edge of one of the inputs that are followed during a reset: the supply, RESET#, PFAIL# and MCS#
(R118, R148, R156). The level an input has already is no edge, and no other command is one (log 13). -/
def State.edge (s : State) : Instr → Bool
  | .powerOnResetStart _ => !s.pins.supplyLow
  | .powerOnResetEnd _ => s.pins.supplyLow
  | .resetPinLow _ => !s.pins.resetLow
  | .resetPinHigh _ => s.pins.resetLow
  | .pfailFall => !s.pins.pfailLow
  | .pfailRise => s.pins.pfailLow
  | .frameOpen => !s.pins.mcsLow
  | .frameClose _ => s.pins.mcsLow
  | .status _ => false
  | .commit _ => false
  | .abort _ => false
  | .format _ => false
  | .apply _ => false
  | .stageWrite _ => false
  | .stageRead _ => false
  | .validate _ => false
  | .releaseFence _ => false
  | .readReport _ => false
  | .readLastOp _ => false
  | .readFault _ => false
  | .clearFault _ => false
  | .ackAttention _ => false
  | .setAttentionMask _ => false
  | .softReset _ => false
  | .unknownCommand _ _ => false
  | .hostPresentation _ _ => false
  | .policyDecision _ => false
  | .hostResponse _ => false
  | .hostReadComplete _ _ => false
  | .hostWriteComplete _ => false
  | .captureTake => false
  | .lineReadComplete _ => false
  | .slotReservation => false
  | .recordWriteComplete => false
  | .filterInsertion => false
  | .anchorReadFirstPartComplete _ => false
  | .anchorReadComplete _ => false
  | .anchorWriteFirstPartComplete => false
  | .anchorWriteComplete => false
  | .scrubWriteComplete => false
  | .scanReadComplete _ => false
  | .lookAheadReadComplete _ => false
  | .rollbackReadComplete _ => false
  | .rollbackLineWriteComplete => false
  | .responseSentInFull => false

/-- The argument length of a command code; STAGE_WRITE's depends on the item its first byte names (R158,
R177). -/
def legalLength (code : Byte) (args : List Byte) : Option Nat :=
  if code = 0x20 then
    match args with
    | [] => none
    | item :: _ =>
      if item = 0x10 then some 7 else if item = 0x20 then some 6 else if item.toNat ≤ 7 then some 10 else none
  else if code = 0x21 ∨ code = 0x50 ∨ code = 0x51 then some 1
  else some 0

/-- `op` is in progress at the memory port, for purpose p of requester r, which has nothing else pending;
no reset is in progress (R171, R172, R174). -/
def State.inPort (s : State) (r : Requester) (p : Purpose) (op : MemOp) : Prop :=
  s.inReset = false ∧ s.arb.current = some (r, op) ∧ op.purpose = p ∧ s.arb.request r = none

/-- At the arbiter, requester r has `x` outstanding after an event, and every other requester what it had
before (R174). -/
def State.nowHas (s t : State) (r : Requester) (x : Option MemOp) : Prop :=
  ∀ q, t.outstanding q = if q = r then x else s.outstanding q

/-- A read of the bridge's own (R172). -/
def readOf (p : Purpose) (addr words : Nat) : Option MemOp := some ⟨p, addr, words, []⟩

/-- A write of the bridge's own, with every byte enable asserted (R172). -/
def writeOf (p : Purpose) (addr words : Nat) (bytes : List Byte) : Option MemOp :=
  some ⟨p, addr, words, bytes.map some⟩

/-- The bytes an operation in progress reads (R172). -/
def State.bytesRead (s : State) (op : MemOp) : List Byte := s.mem.readBytes op.addr (4 * op.words)

/-- A write has stored its bytes: each enabled byte holds its new value and every other byte of memory its
old one (R172). -/
def Mem.storedBy (m m' : Mem) (op : MemOp) : Prop :=
  (∀ i b, op.cells[i]? = some (some b) → m'.read ((op.addr + i) % addressSpace) = b)
    ∧ ∀ a, (∀ i b, op.cells[i]? = some (some b) → a ≠ (op.addr + i) % addressSpace) →
        m'.read a = m.read a

/-- How many requesters of the cycle Host Port A, Host Port B, Capture Engine, Journal Controller come before `r`,
starting with the one after the grant pointer (R174). -/
def Requester.turn (pointer r : Requester) : Nat :=
  let place : Requester → Nat
    | .portA => 0
    | .portB => 1
    | .capture => 2
    | .journal => 3
  (place r + 3 - place pointer) % 4

/-- A requester comes first in the cycle among those that have a request pending in `arb` (R174). -/
def Requester.firstIn (pointer r : Requester) (arb : Arbiter) : Prop :=
  ∀ q, arb.request q ≠ none → pointer.turn r ≤ pointer.turn q

/-- The part with port p's record as if its write had never been held: the model's own mark is gone (log 31). -/
def State.unmarked (s : State) (p : Port) : State :=
  s.setPort p { s.port p with txn := (s.port p).txn.map fun x => { x with wasHeld := false } }

/-- The part with port p in DECIDING, its transaction as if newly presented (R61, R70). -/
def State.redecides (s : State) (p : Port) : State := (s.deciding p).unmarked p

/-- Two parts differ in nothing but which requests the arbiter has granted, which free values are used and which
writes are marked as held before: each requester has the same operation outstanding (R174, log 8, log 31). -/
def State.agrees (s t : State) : Prop :=
  (s.unmarked .a).unmarked .b
      = { (t.unmarked .a).unmarked .b with arb := s.arb, free := s.free }
    ∧ ∀ r, s.outstanding r = t.outstanding r

/-- A holding cause ends between s and t: the fence is no longer up, or a COMMIT or an APPLY has completed, in the
last case at the acceptance of a frame `f` itself, when nothing was to drain and the journal was not empty (R70,
R82, R141). -/
def State.endsHolding (s t : State) (c : Instr) : Prop :=
  (s.fence.state ≠ .normal ∧ t.fence.state = .normal)
    ∨ ((s.jc.op = .commit ∨ s.jc.op = .apply) ∧ t.jc.op = .none)
    ∨ ∃ f, c = .apply f ∧ s.takesBytes ∧ t.frame = answered 0x13 f .accepted [] ∧ t.jc.op = .none

/-- The event of c, from s to t, may be taken before the retaken decision of a write that stands in DECIDING: a fall of
PFAIL#, or the acceptance of an operation command (R17, R151). -/
def State.shutsOut (s t : State) (c : Instr) : Prop :=
  (c = .pfailFall ∧ s.inReset = false ∧ s.pins.pfailLow = false)
    ∨ ∃ code f, (c = .commit f ∨ c = .abort f ∨ c = .format f ∨ c = .apply f) ∧ frameOf c = some (code, f)
      ∧ s.takesBytes ∧ t.frame = answered code f .accepted []

/-- Such an event comes together with the one of c, from s to t: its command is the next that waits. With a rise of
PFAIL# it is an acceptance, and with a RELEASE_FENCE a fall (R17, R151, log 31). -/
def State.comesNext (s t : State) (c : Instr) : Prop :=
  ∃ a u, s.pending.head? = some a ∧ exec a t = .next u ∧ t.shutsOut u a
    ∧ ((c = .pfailRise ∧ a ≠ .pfailFall) ∨ ∃ f, c = .releaseFence f ∧ a = .pfailFall)

/-- No port has a decision to retake (R70). -/
def State.noneRetaking (s : State) : Prop := s.retaking .a = false ∧ s.retaking .b = false

/-- No port holds a write (R69). -/
def State.noneHeld (s : State) : Prop := s.portA.stage ≠ .held ∧ s.portB.stage ≠ .held

/-- The Anchor Unit has begun to write an anchor (R85, R91): the target copy is the one that does not hold
the newest anchor, the sequence number the next one, and the first 20 words are requested. -/
def State.beginsAnchor (s t : State) (epoch : Word) (phase : Phase) (g : Geometry) (c : Setup) : Prop :=
  let target := if s.anchors.newest = some .a then Copy.b else Copy.a
  let seq := if s.anchors.newest = none then 1 else s.anchors.seq + 1
  let bytes := (Anchor.mk seq epoch phase g c s.memSize.lines).bytes
  t.anchors = { s.anchors with op := some (.writeFirst target seq (bytes.drop 80)) }
    ∧ s.nowHas t .journal
        (writeOf .anchorWriteFirst
          (s.memSize.lines * 64 - (if target = .a then 256 else 128)) 20 (bytes.take 80))

/-- An operation has ended: the journal state, E and fill have their new values, and the items of the
operation are absent (R15, R98). -/
def Journal.ended (j : Journal) (st : JournalState) (epoch : Word) (fill : Nat) : Journal :=
  { j with
    state := st, op := .none, epoch := epoch, fill := fill, step := none, drain := [], scan := none,
    scrub := none, rollback := none }

/-- The epoch advance begins: epoch E + 1 and phase OPEN, or epoch 0 and SCRUBBING at a wrap, with the active
configuration (R4, R100). -/
def State.advances (s t : State) (g : Geometry) : Prop :=
  s.beginsAnchor t (if s.jc.epoch = 4294967295 then 0 else s.jc.epoch + 1)
    (if s.jc.epoch = 4294967295 then .scrubbing else .opened) g s.store.active

/-- What the Journal Controller does at the event that completes a drain, by the operation in progress; `u`
is the part as that event leaves it otherwise, and `t` the part after it (R82, R99, R105, R108, R141,
R144). -/
def State.beginsWork (u t : State) (g : Geometry) : Prop :=
  (u.jc.op = .commit →
    t = { u with
      jc := { u.jc with step := some .advancing }, anchors := t.anchors, arb := t.arb, free := t.free }
    ∧ u.advances t g)
  ∧ (u.jc.op = .abort → u.jc.fill ≠ 0 →
    t = { u with
      jc := { u.jc with step := some .rollingBack, rollback := some ⟨(u.jc.fill : Int) - 1, 0, [], 0⟩ }
      arb := t.arb, free := t.free }
    ∧ u.nowHas t .journal (readOf .rollbackRead (slotAt g (u.jc.fill - 1)) 20))
  ∧ (u.jc.op = .abort → u.jc.fill = 0 →
    t = { u with
      jc := { u.jc with step := some .advancing, rollback := some ⟨-1, 0, [], 0⟩ }
      anchors := t.anchors, arb := t.arb, free := t.free }
    ∧ u.advances t g)
  ∧ (u.jc.op = .format →
    t = { u with
      jc := { u.jc with step := some .scrubbing, fill := 0, scrub := some 0 }
      filter := ⟨[], false⟩, arb := t.arb, free := t.free }
    ∧ u.nowHas t .journal (writeOf .scrubWrite (slotAt u.store.stagedGeom 0) 20 (emptyRecord 0)))
  ∧ (u.jc.op = .apply → u.jc.fill = 0 →
    t = { u with
      jc := { u.jc with step := some .applyAnchor }, anchors := t.anchors, arb := t.arb, free := t.free }
    ∧ u.beginsAnchor t u.jc.epoch .opened g u.store.staged)
  ∧ (u.jc.op = .apply → u.jc.fill ≠ 0 → u.noneHeld →
    t = { u with
      jc := { u.jc.ended .active u.jc.epoch u.jc.fill with
        lastOp := some ⟨.apply, .notEmpty, u.jc.epoch, u.jc.epoch, 0, [], 0⟩ }
      attn := { u.attn with pending := u.attn.pending ||| 1 }
      arb := t.arb, free := t.free }
    ∧ ∀ q, t.outstanding q = u.outstanding q)

/-- Window n is the lowest-numbered one of a table that fails a check (R139). -/
def firstFailing (ws : List Window) (fails : Window → Prop) (n : Nat) : Prop :=
  (∃ w, ws[n]? = some w ∧ fails w) ∧ ∀ k w, k < n → ws[k]? = some w → ¬ fails w

/-- The volatile state of every block after a reset has begun (R8, R42, R74, R75, R86, R119, R135, R163, R165), but
for what the start of recovery adds at the end of a reset: the step, the working report, the copy read and
its request. The staging image of R135 and the fence sample of R148 are those of a reset's end; that they stand
from its begin is the model's choice (log 12). -/
def State.resetValues (t : State) : Prop :=
  t.jc.state = .recovering ∧ t.jc.op = .recovery ∧ t.jc.epoch = 0 ∧ t.jc.fill = 0 ∧ t.jc.geom = none
    ∧ t.jc.drain = [] ∧ t.jc.scan = none ∧ t.jc.scrub = none ∧ t.jc.rollback = none ∧ t.jc.lastOp = none
    ∧ t.filter = ⟨[], false⟩ ∧ t.engine = ⟨[], none⟩
    ∧ t.anchors.newest = none ∧ t.anchors.seq = 0 ∧ t.anchors.validA = .notRead
    ∧ t.anchors.validB = .notRead
    ∧ t.store.geom = none ∧ t.store.active.windows = List.replicate 8 ⟨0, 0, none⟩
    ∧ t.store.active.default = .direct ∧ t.store.active.alert = 0 ∧ t.store.active.action = .hold
    ∧ t.store.active.mode = .level ∧ t.store.stagedGeom = ⟨0, 16⟩
    ∧ t.store.staged = ⟨List.replicate 8 ⟨0, 0, none⟩, .direct, 0, .hold, .level⟩ ∧ t.store.staging = .draft
    ∧ t.decoder = ⟨List.replicate 8 ⟨0, 0, none⟩, .direct, none, t.memSize.lines - 4⟩
    ∧ t.fence = ⟨if t.pins.pfailLow then .fenced else .normal, .hold, .level⟩
    ∧ t.attn = ⟨0, 63, none, 0, none⟩
    ∧ t.portA.stage = .idle ∧ t.portA.txn = none ∧ t.portB.stage = .idle ∧ t.portB.txn = none
    ∧ t.arb.a = none ∧ t.arb.b = none ∧ t.arb.capture = none ∧ t.arb.pointer = .journal

/-- The staging image as recovery leaves it: a copy of the active configuration, in DRAFT (R131, R135). -/
def Store.copied (c : Store) (g : Geometry) : Store :=
  { c with stagedGeom := g, staged := c.active, staging := .draft }

/-- How a scan ends at slot k (R110, R111, R128 to R130): `ls` and `n` are the unrestorable list and further
count of a stop on damage. Fill is k and the filter is cleared; damage ends the operation in DAMAGED; else the
rollback runs over the slots below k, or with none a recovery ends in CLEAN_START and an ABORT advances the
epoch. -/
def State.scanEnds (s t : State) (g : Geometry) (reason : StopReason) (cls : Option SlotClass)
    (k scanned : Nat) (ls : List Nat) (n : Nat) : Prop :=
  let damage := reason = .readError ∨ reason = .damageDetected
  let told (r : Report) : Report := { r with scanned := scanned, reason := reason, cls := cls, stop := k }
  let after (j : Journal) : State :=
    { s with jc := j, filter := ⟨[], false⟩, arb := t.arb, free := t.free }
  let rolls : Journal :=
    { s.jc with
      fill := k, scan := none, step := some .rollingBack, rollback := some ⟨(k : Int) - 1, 0, [], 0⟩ }
  let reports (r : Report) : State :=
    { after { s.jc.ended (if damage then .damaged else .active) s.jc.epoch k with working := none } with
      store := s.store.copied g
      attn := { s.attn with report := some r, pending := s.attn.pending ||| 2 } }
  (damage → s.jc.op = .abort →
    t = { after { s.jc.ended .damaged s.jc.epoch k with
          lastOp := some ⟨.abort, .damaged, s.jc.epoch, s.jc.epoch, 0, ls, n⟩ } with
        attn := { s.attn with pending := s.attn.pending ||| 1 } }
      ∧ s.nowHas t .journal none)
  ∧ (∀ r, damage → s.jc.op = .recovery → s.jc.working = some r →
    t = reports { told r with lines := ls, further := n, outcome := some .damaged }
      ∧ s.nowHas t .journal none)
  ∧ (¬ damage → 0 < k → s.jc.op = .abort →
    t = after rolls ∧ s.nowHas t .journal (readOf .rollbackRead (slotAt g (k - 1)) 20))
  ∧ (∀ r, ¬ damage → 0 < k → s.jc.op = .recovery → s.jc.working = some r →
    t = after { rolls with working := some (told r) }
      ∧ s.nowHas t .journal (readOf .rollbackRead (slotAt g (k - 1)) 20))
  ∧ (¬ damage → k = 0 → s.jc.op = .abort →
    t = { after { rolls with step := some .advancing } with anchors := t.anchors } ∧ s.advances t g)
  ∧ ∀ r, ¬ damage → k = 0 → s.jc.op = .recovery → s.jc.working = some r →
    t = reports { told r with outcome := some .cleanStart } ∧ s.nowHas t .journal none

/-- Where a rollback goes once it stands at `rb` (R105, R107, R109, R130): the read of the slot at its position;
below slot 0, the epoch advance when every record was applied, and otherwise the end of the operation in
DAMAGED with E and fill as they are. -/
def State.rollbackGoesTo (s t : State) (g : Geometry) (rb : Rollback) : Prop :=
  let applied := rb.lines = [] ∧ rb.further = 0
  (0 ≤ rb.pos →
    t = { s with jc := { s.jc with rollback := some rb }, arb := t.arb, free := t.free }
      ∧ s.nowHas t .journal (readOf .rollbackRead (slotAt g rb.pos.toNat) 20))
  ∧ (rb.pos < 0 → applied →
    t = { s with
        jc := { s.jc with rollback := some rb, step := some .advancing }
        anchors := t.anchors, arb := t.arb, free := t.free }
      ∧ s.advances t g)
  ∧ (rb.pos < 0 → ¬ applied → s.jc.op = .abort →
    t = { s with
        jc := { s.jc.ended .damaged s.jc.epoch s.jc.fill with
          lastOp := some ⟨.abort, .damaged, s.jc.epoch, s.jc.epoch, rb.applied, rb.lines, rb.further⟩ }
        attn := { s.attn with pending := s.attn.pending ||| 1 }
        arb := t.arb, free := t.free }
      ∧ s.nowHas t .journal none)
  ∧ ∀ r, rb.pos < 0 → ¬ applied → s.jc.op = .recovery → s.jc.working = some r →
    t = { s with
        jc := { s.jc.ended .damaged s.jc.epoch s.jc.fill with working := none }
        store := s.store.copied g
        attn := { s.attn with
          report := some { r with
            applied := rb.applied, lines := rb.lines, further := rb.further, outcome := some .damaged }
          pending := s.attn.pending ||| 2 }
        arb := t.arb, free := t.free }
      ∧ s.nowHas t .journal none

end Sys2Proof.Machine
end

