-- ==== Sys2Proof/Certificates/Slice0/Obligations.lean ====
section
/-! DEFINITION. The statements for the provers: what the commands of the J2208 do, and what every command
keeps. Each docstring names the rules or sections of spec/ a statement formalises, and the log entry where it
rests on a choice of the model's. -/

open Sys2Proof Sys2Proof.Machine

/-! ## The queue and the step -/

/-- A step takes the command at the front of the queue and runs it on the part with the queue's rest; on an
empty queue the part idles; and every command answers a next state in every state and leaves the queue to the
step: the model's own frame around the commands (log 1, log 2, log 28). -/
def Obligations.StepTakesTheFrontCommand : Prop :=
  (∀ (c : Instr) (rest : List Instr) (s : State),
    (s.pending = c :: rest → step s = exec c { s with pending := rest })
    ∧ (s.pending = [] → step s = .next s))
  ∧ ∀ (c : Instr) (s : State), ∃ t, exec c s = .next t ∧ t.pending = s.pending

/-! ## Resets (spec/08 section 8.1) -/

/-- Every reset kind leaves the volatile state of every block at the same values (R119, R135), records its own
start cause (R118), keeps the last strap sample (R43), and leaves memory as it is unless it cuts off a write (R8,
R172). A SOFT_RESET begins and ends at the close of its frame, so recovery has begun there. Two points are the
model's: the fence state, which R148 samples at the end of a reset, and the staging image, which R135 gives for
its end, stand from its begin (log 12); and a supply fall under RESET# low starts a power-on reset with cause
POWER_ON (log 11). -/
def Obligations.EveryResetLeavesTheSameValues : Prop :=
  (∀ cut s, s.pins.supplyLow = false →
    ∃ t, exec (.powerOnResetStart cut) s = .next t ∧ t.resetValues ∧ t.cause = .powerOn
      ∧ t.pins = { s.pins with supplyLow := true } ∧ t.memSize = s.memSize ∧ t.frame = none
      ∧ t.jc.step = none ∧ t.jc.working = none ∧ t.anchors.op = none ∧ t.arb.current = none
      ∧ t.arb.journal = none
      ∧ ((∀ r op, s.arb.current = some (r, op) → op.purpose.isWrite = false) → t.mem = s.mem))
  ∧ (∀ cut s, s.pins.supplyLow = false → s.pins.resetLow = false →
    ∃ t, exec (.resetPinLow cut) s = .next t ∧ t.resetValues ∧ t.cause = .resetPin
      ∧ t.pins = { s.pins with resetLow := true } ∧ t.memSize = s.memSize ∧ t.frame = none
      ∧ t.jc.step = none ∧ t.jc.working = none ∧ t.anchors.op = none ∧ t.arb.current = none
      ∧ t.arb.journal = none
      ∧ ((∀ r op, s.arb.current = some (r, op) → op.purpose.isWrite = false) → t.mem = s.mem))
  ∧ ∀ cut s k, s.inReset = false → s.pins.mcsLow = true → s.frame = some k → k.softReset = true →
    ∃ t, exec (.frameClose cut) s = .next t ∧ t.resetValues
      ∧ t.cause = .soft ∧ t.pins = { s.pins with mcsLow := false } ∧ t.memSize = s.memSize
      ∧ t.frame = none ∧ t.jc.step = some .anchorSearch ∧ t.jc.working = some (Report.start .soft)
      ∧ t.anchors.op = some (.readFirst .a)
      ∧ t.arb.current
          = some (.journal, ⟨.anchorReadFirst, s.memSize.lines * 64 - 256, 20, []⟩)
      ∧ t.arb.journal = none
      ∧ ((∀ r op, s.arb.current = some (r, op) → op.purpose.isWrite = false) → t.mem = s.mem)

/-- A memory write that a reset of any kind cuts off leaves its target torn: each word the memory had marked done holds its
new bytes, the word in progress any mixture of old and new, the words not reached their old bytes, and nothing
else of memory changes (spec/12 section 12.3). How many words were done comes with the command; the mixture is
a free value (log 7). -/
def Obligations.ACutOffWriteIsTorn : Prop :=
  ∀ c cut s t r op, s.inReset = false →
    (c = .powerOnResetStart cut ∨ c = .resetPinLow cut
      ∨ (c = .frameClose cut ∧ s.pins.mcsLow = true ∧ ∃ k, s.frame = some k ∧ k.softReset = true)) →
    s.arb.current = some (r, op) → op.purpose.isWrite = true → op.cells.length ≤ 80 →
    exec c s = .next t →
      (∀ i b, op.cells[i]? = some (some b) →
        (i / 4 < cut → t.mem.read ((op.addr + i) % addressSpace) = b)
        ∧ (i / 4 = cut → t.mem.read ((op.addr + i) % addressSpace) = b
            ∨ t.mem.read ((op.addr + i) % addressSpace) = s.mem.read ((op.addr + i) % addressSpace))
        ∧ (cut < i / 4 →
            t.mem.read ((op.addr + i) % addressSpace) = s.mem.read ((op.addr + i) % addressSpace)))
      ∧ ∀ a, (∀ i b, op.cells[i]? = some (some b) → a ≠ (op.addr + i) % addressSpace) →
          t.mem.read a = s.mem.read a

/-- A reset ends (spec/08 section 8.1, spec/03 section 3.5, spec/10 section 10.2): the straps are sampled and
set the anchor area, PFAIL# is sampled, a frame whose MCS# is low is ignored, recovery begins in step
ANCHOR_SEARCH, and the first 20 words of copy A are read at once, the arbiter having nothing else. -/
def Obligations.AResetEndsInRecovery : Prop :=
  ∀ (c : Instr) (m : BitVec 3) (s : State),
    ((c = .powerOnResetEnd m ∧ s.pins.supplyLow = true ∧ s.pins.resetLow = false)
      ∨ (c = .resetPinHigh m ∧ s.pins.resetLow = true ∧ s.pins.supplyLow = false)) →
    s.arb = ⟨.journal, none, none, none, none, none⟩ →
    ∃ t, exec c s = .next t
      ∧ t.memSize.lines
          = (if m = 0 then 16384 else if m = 1 then 32768 else if m = 2 then 65536
             else if m = 3 then 131072 else 262144)
      ∧ t = { s with
          pins := { s.pins with supplyLow := false, resetLow := false }
          memSize := t.memSize
          decoder := { s.decoder with anchorFirst := t.memSize.lines - 4 }
          fence := ⟨if s.pins.pfailLow then .fenced else .normal, .hold, .level⟩
          frame := if s.pins.mcsLow then some ⟨.ignoring, [], 0, [], false⟩ else none
          jc := { s.jc with
            state := .recovering, op := .recovery, step := some .anchorSearch,
            working := some (Report.start s.cause) }
          anchors := { s.anchors with op := some (.readFirst .a) }
          arb := ⟨.journal, none, none, none, none,
            some (.journal, ⟨.anchorReadFirst, t.memSize.lines * 64 - 256, 20, []⟩)⟩ }

/-- While a reset lasts, the pins are followed and nothing else happens: a power-on reset that ends under
RESET# low samples the straps and leaves the part in reset, RESET# moves during a power-on reset, edges of
PFAIL# and MCS# leave no trace but the level, and every command that is no edge of an input leaves the part as it
is (spec/05 section 5.7, spec/08 section 8.1, spec/10 section 10.2, spec/11 section 11.1, spec/12 section 12.2; how
the two resets overlap is the model's reading, log 11). -/
def Obligations.ALastingResetFollowsThePins : Prop :=
  ∀ s : State,
    (∀ m, s.pins.supplyLow = true → s.pins.resetLow = true →
      ∃ t, exec (.powerOnResetEnd m) s = .next t
        ∧ t.memSize.lines
            = (if m = 0 then 16384 else if m = 1 then 32768 else if m = 2 then 65536
               else if m = 3 then 131072 else 262144)
        ∧ t = { s with
            pins := { s.pins with supplyLow := false }
            memSize := t.memSize
            decoder := { s.decoder with anchorFirst := t.memSize.lines - 4 } })
    ∧ (∀ cut, s.pins.supplyLow = true → s.pins.resetLow = false →
        exec (.resetPinLow cut) s = .next { s with pins := { s.pins with resetLow := true } })
    ∧ (∀ m, s.pins.supplyLow = true → s.pins.resetLow = true →
        exec (.resetPinHigh m) s = .next { s with pins := { s.pins with resetLow := false } })
    ∧ (s.inReset = true → s.pins.pfailLow = false →
        exec .pfailFall s = .next { s with pins := { s.pins with pfailLow := true } })
    ∧ (s.inReset = true → s.pins.pfailLow = true →
        exec .pfailRise s = .next { s with pins := { s.pins with pfailLow := false } })
    ∧ (s.inReset = true → s.pins.mcsLow = false →
        exec .frameOpen s = .next { s with pins := { s.pins with mcsLow := true } })
    ∧ (∀ cut, s.inReset = true → s.pins.mcsLow = true →
        exec (.frameClose cut) s = .next { s with pins := { s.pins with mcsLow := false } })
    ∧ ∀ c, s.inReset = true → s.edge c = false → exec c s = .next s

/-! ## The Fence Unit (spec/10) -/

/-- A fall of PFAIL#, in NORMAL or in FENCE_LATCHED, sets the fence state to FENCED and raises FENCE_CHANGE,
whatever the release mode and the journal state. A rise taken in FENCED ends the fence under LEVEL, with
FENCE_CHANGE, and latches it under LATCHED, with no cause raised and no held write retaking its decision
(spec/10 section 10.3). The held writes that retake their decision under LEVEL have a statement of their own.
-/
def Obligations.PfailMovesTheFence : Prop :=
  ∀ s : State, s.inReset = false →
    (s.pins.pfailLow = false → s.arbiterSound → s.noneRetaking →
      exec .pfailFall s = .next { s with
        pins := { s.pins with pfailLow := true }
        fence := { s.fence with state := .fenced }
        attn := { s.attn with pending := s.attn.pending ||| 32 } })
    ∧ (s.pins.pfailLow = true → s.arbiterSound → s.fence.mode = .level → s.noneHeld →
      exec .pfailRise s = .next { s with
        pins := { s.pins with pfailLow := false }
        fence := { s.fence with state := .normal }
        attn := { s.attn with pending := s.attn.pending ||| 32 } })
    ∧ (s.pins.pfailLow = true → s.arbiterSound → s.fence.mode = .latched →
      exec .pfailRise s = .next { s with
        pins := { s.pins with pfailLow := false }
        fence := { s.fence with state := .latched } })

/-- RELEASE_FENCE is decided by its checks in order. Answered OK with no write held it sets the fence state to
NORMAL and raises FENCE_CHANGE; refused, it changes nothing (spec/10 section 10.4). The held writes that retake
their decision have a statement of their own. -/
def Obligations.ReleaseFenceIsDecidedInOrder : Prop :=
  ∀ (f : FrameTail) (s : State), s.takesBytes → s.arbiterSound → f.args = [] → goodCrc 0x30 f = true →
    (s.jc.op ≠ .none →
      exec (.releaseFence f) s = .next { s with frame := answered 0x30 f .busy [s.jc.op.code] })
    ∧ (s.jc.op = .none → (s.fence.mode ≠ .latched ∨ s.fence.state ≠ .latched) →
      exec (.releaseFence f) s
        = .next { s with frame := answered 0x30 f .wrongState [s.jc.state.code, s.fence.state.code] })
    ∧ (s.jc.op = .none → s.fence.mode = .latched → s.fence.state = .latched → s.noneHeld →
      exec (.releaseFence f) s = .next { s with
        frame := answered 0x30 f .ok []
        fence := { s.fence with state := .normal }
        attn := { s.attn with pending := s.attn.pending ||| 32 } })

/-- A held write retakes its whole policy decision at each event that ends a holding cause, against the state as it
stands after the event (spec/05 section 5.3): a rise of PFAIL#, a RELEASE_FENCE, the completed anchor write of a
COMMIT, an APPLY or a FORMAT, and an APPLY that ends with NOT_EMPTY, at its acceptance or at the event that ends
its drain. The part comes out as if the port had been in DECIDING at the event, its write newly presented, and had
then taken its decision, all but for which requests the arbiter has granted. With two such writes, one at each port,
both take their decisions, in one order or the other (log 8). Only where an acceptance of an operation command comes
together with a rise, or a fall with a RELEASE_FENCE, as the very next command that waits, may the write also stand
in DECIDING for it (which of the two is a free value, log 31): the decision is then taken right after that event,
against the new path mode or the fence it leaves (spec/01 section 1.6, spec/10 section 10.4), and no decision to
retake outlasts the step that comes next.
-/
def Obligations.AHeldWriteRetakesItsDecision : Prop :=
  (∀ (c : Instr) (f : FrameTail) (merr : Bool) (k p q : Port) (x : Txn) (s t : State),
    (c = .pfailRise ∨ c = .releaseFence f ∨ c = .anchorWriteComplete ∨ c = .apply f
      ∨ c = .hostReadComplete k merr ∨ c = .hostWriteComplete k ∨ c = .lineReadComplete merr
      ∨ c = .slotReservation) →
    p ≠ q → exec c s = .next t → s.endsHolding t c → s.noneRetaking →
    (s.port p).stage = .held → (s.port p).txn = some x →
    let mayWait := s.comesNext t c
    (∀ u v, (s.port q).stage ≠ .held →
      exec c (s.redecides p) = .next u → exec (.policyDecision p) u = .next v →
      t.agrees v ∨ (mayWait ∧ t.agrees u))
    ∧ ∀ y u v v' w w', (s.port q).stage = .held → (s.port q).txn = some y →
      exec c ((s.redecides p).redecides q) = .next u →
      exec (.policyDecision p) u = .next v → exec (.policyDecision q) v = .next v' →
      exec (.policyDecision q) u = .next w → exec (.policyDecision p) w = .next w' →
      t.agrees v' ∨ t.agrees w' ∨ (mayWait ∧ (t.agrees u ∨ t.agrees v ∨ t.agrees w)))
  ∧ (∀ (c : Instr) (p q : Port) (s t : State), p ≠ q → exec c s = .next t → s.shutsOut t c → s.noneHeld →
    s.retaking p = true →
    (∀ u v, s.retaking q = false →
      exec c (s.redecides p) = .next u → exec (.policyDecision p) u = .next v → t.agrees v)
    ∧ ∀ u v v' w w', s.retaking q = true →
      exec c ((s.redecides p).redecides q) = .next u →
      exec (.policyDecision p) u = .next v → exec (.policyDecision q) v = .next v' →
      exec (.policyDecision q) u = .next w → exec (.policyDecision p) w = .next w' →
      t.agrees v' ∨ t.agrees w')
  ∧ ∀ s t u : State, s.noneRetaking → step s = .next t → step t = .next u → t.noneRetaking ∨ u.noneRetaking

/-! ## Frames (spec/11) -/

/-- A fall of MCS# opens a frame, the end of a response makes it TRAILING, and a rise closes it, whatever its
phase: in RECEIVING the frame is discarded with nothing done (R157; spec/11 section 11.1). SOFT_RESET is answered
OK unless recovery runs, and at its dispatch nothing changes but the frame, which from then on carries the reset
to the rise of MCS#; in RECOVERING it receives BUSY and carries none (spec/11 section 11.6). -/
def Obligations.FramesOpenAndClose : Prop :=
  (∀ s : State, s.inReset = false →
    (s.pins.mcsLow = false →
      exec .frameOpen s = .next { s with
        pins := { s.pins with mcsLow := true }
        frame := some ⟨.receiving, [], 0, [], false⟩ })
    ∧ (∀ k, s.frame = some k → k.phase = .responding →
      exec .responseSentInFull s = .next { s with frame := some { k with phase := .trailing } })
    ∧ (∀ cut k, s.pins.mcsLow = true → s.frame = some k → k.softReset = false →
      exec (.frameClose cut) s
        = .next { s with pins := { s.pins with mcsLow := false }, frame := none }))
  ∧ ∀ (f : FrameTail) (s : State), s.takesBytes → s.arbiterSound → f.args = [] → goodCrc 0x5A f = true →
    (s.jc.op = .recovery →
      exec (.softReset f) s = .next { s with frame := answered 0x5A f .busy [0x01] })
    ∧ (s.jc.op ≠ .recovery →
      exec (.softReset f) s = .next { s with frame := answered 0x5A f .ok [] true })

/-- A frame that fails a check of the Management Port is answered FRAME_ERROR, UNKNOWN_COMMAND or
INVALID_ARGUMENT, the first check that fails giving the result, and nothing else changes (spec/11 section
11.2). That a frame with a good CRC-8 and a listed code is not an event of UNKNOWN_COMMAND's row is the model's
reading of the table (log 9). -/
def Obligations.AFrameThatFailsACheckChangesNothing : Prop :=
  ∀ (c : Instr) (code : Byte) (f : FrameTail) (s : State), frameOf c = some (code, f) → s.takesBytes →
    s.arbiterSound →
    (goodCrc code f = false → exec c s = .next { s with frame := answered code f .frameError [] })
    ∧ (goodCrc code f = true → code ∉ commandCodes →
        exec c s = .next { s with frame := answered code f .unknownCommand [] })
    ∧ (goodCrc code f = true → c ≠ .unknownCommand code f → legalLength code f.args ≠ some f.args.length →
        exec c s = .next { s with frame := answered code f .invalidArgument [] })
    ∧ (goodCrc code f = true → code ∈ commandCodes → c = .unknownCommand code f → exec c s = .next s)

/-- STATUS is answered OK in every journal state with a snapshot of the part, 21 bytes in the layout of the
formats chapter, and changes nothing (spec/11 section 11.3, spec/13 section 13.2). -/
def Obligations.StatusIsASnapshot : Prop :=
  ∀ (f : FrameTail) (s : State), s.takesBytes → s.arbiterSound → f.args = [] → goodCrc 0x01 f = true →
    exec (.status f) s = .next { s with
      frame := answered 0x01 f .ok
        ([s.jc.state.code, s.jc.op.code] ++ beBytes 4 s.jc.epoch.toNat ++ beBytes 2 s.jc.fill
          ++ beBytes 2 (match s.jc.geom with | some g => g.count | none => 0)
          ++ beBytes 2 s.filter.lines.length
          ++ [if s.filter.saturated then 0x01 else 0x00, s.fence.state.code, s.attn.pending.setWidth 8,
              s.attn.mask.setWidth 8, if s.store.staging = .ready then 0x01 else 0x00]
          ++ beBytes 4 s.memSize.lines) }

/-- READ_REPORT, READ_LAST_OP and READ_FAULT return their records in the layouts of the formats chapter and
change nothing, also during a long operation; in RECOVERING they receive BUSY (spec/11 sections 11.4 and 11.5,
spec/13 section 13.2). -/
def Obligations.TheRecordsAreRead : Prop :=
  ∀ (f : FrameTail) (s : State), s.takesBytes → s.arbiterSound → f.args = [] →
    (goodCrc 0x40 f = true → s.jc.state = .recovering →
      exec (.readReport f) s = .next { s with frame := answered 0x40 f .busy [s.jc.op.code] })
    ∧ (∀ r, goodCrc 0x40 f = true → s.jc.state ≠ .recovering → s.attn.report = some r →
      exec (.readReport f) s = .next { s with
        frame := answered 0x40 f .ok
          ([r.cause.code, Copy.code r.anchor] ++ beBytes 4 r.seq.toNat ++ beBytes 4 r.epoch.toNat
            ++ [r.phase.code] ++ beBytes 2 r.scanned ++ [r.reason.code, SlotClass.code r.cls]
            ++ beBytes 2 r.stop ++ beBytes 2 r.applied ++ [RecoveryOutcome.code r.outcome]
            ++ beBytes 2 r.further ++ [BitVec.ofNat 8 r.lines.length]
            ++ (r.lines.map (beBytes 4)).flatten) })
    ∧ (goodCrc 0x41 f = true → s.jc.state = .recovering →
      exec (.readLastOp f) s = .next { s with frame := answered 0x41 f .busy [s.jc.op.code] })
    ∧ (goodCrc 0x41 f = true → s.jc.state ≠ .recovering → s.jc.lastOp = none →
      exec (.readLastOp f) s = .next { s with frame := answered 0x41 f .ok [0x00] })
    ∧ (∀ r, goodCrc 0x41 f = true → s.jc.state ≠ .recovering → s.jc.lastOp = some r →
      exec (.readLastOp f) s = .next { s with
        frame := answered 0x41 f .ok
          ([0x01, r.kind.kindCode, r.result.code] ++ beBytes 4 r.before.toNat ++ beBytes 4 r.after.toNat
            ++ beBytes 2 r.applied ++ beBytes 2 r.further ++ [BitVec.ofNat 8 r.lines.length]
            ++ (r.lines.map (beBytes 4)).flatten) })
    ∧ (goodCrc 0x42 f = true → s.jc.state = .recovering →
      exec (.readFault f) s = .next { s with frame := answered 0x42 f .busy [s.jc.op.code] })
    ∧ (goodCrc 0x42 f = true → s.jc.state ≠ .recovering → s.attn.fault = none →
      exec (.readFault f) s = .next { s with frame := answered 0x42 f .ok [0x00] })
    ∧ (∀ r, goodCrc 0x42 f = true → s.jc.state ≠ .recovering → s.attn.fault = some r →
      exec (.readFault f) s = .next { s with
        frame := answered 0x42 f .ok
          ([0x01, portCode r.port, r.kind.code] ++ beBytes 4 r.addr
            ++ [r.enables.setWidth 8, BitVec.ofNat 8 r.len, r.reason.code] ++ beBytes 4 r.epoch.toNat
            ++ beBytes 2 s.attn.count) })

/-- CLEAR_FAULT empties the fault record and its count and leaves the pending set; ACK_ATTENTION removes the
named causes and answers what is left; SET_ATTENTION_MASK replaces the mask whole and answers it. A byte that
names more than the six causes receives INVALID_ARGUMENT, and in RECOVERING each receives BUSY and changes
nothing (spec/11 sections 11.5 and 11.7). -/
def Obligations.AttentionIsGovernedByItsCommands : Prop :=
  ∀ (f : FrameTail) (s : State), s.takesBytes → s.arbiterSound →
    (f.args = [] → goodCrc 0x43 f = true → s.jc.state = .recovering →
      exec (.clearFault f) s = .next { s with frame := answered 0x43 f .busy [s.jc.op.code] })
    ∧ (f.args = [] → goodCrc 0x43 f = true → s.jc.state ≠ .recovering →
      exec (.clearFault f) s = .next { s with
        frame := answered 0x43 f .ok [], attn := { s.attn with fault := none, count := 0 } })
    ∧ ∀ b, f.args = [b] →
      (goodCrc 0x50 f = true → 64 ≤ b.toNat →
        exec (.ackAttention f) s = .next { s with frame := answered 0x50 f .invalidArgument [] })
      ∧ (goodCrc 0x50 f = true → b.toNat < 64 → s.jc.state = .recovering →
        exec (.ackAttention f) s = .next { s with frame := answered 0x50 f .busy [s.jc.op.code] })
      ∧ (goodCrc 0x50 f = true → b.toNat < 64 → s.jc.state ≠ .recovering →
        ∃ t, exec (.ackAttention f) s = .next t
          ∧ (∀ i : Nat, i < 6 →
              t.attn.pending.getLsbD i = (s.attn.pending.getLsbD i && !b.getLsbD i))
          ∧ t = { s with
              frame := answered 0x50 f .ok [t.attn.pending.setWidth 8]
              attn := { s.attn with pending := t.attn.pending } })
      ∧ (goodCrc 0x51 f = true → 64 ≤ b.toNat →
        exec (.setAttentionMask f) s = .next { s with frame := answered 0x51 f .invalidArgument [] })
      ∧ (goodCrc 0x51 f = true → b.toNat < 64 → s.jc.state = .recovering →
        exec (.setAttentionMask f) s = .next { s with frame := answered 0x51 f .busy [s.jc.op.code] })
      ∧ (goodCrc 0x51 f = true → b.toNat < 64 → s.jc.state ≠ .recovering →
        exec (.setAttentionMask f) s = .next { s with
          frame := answered 0x51 f .ok [b], attn := { s.attn with mask := b.setWidth 6 } })

/-! ## The output pins (spec/01, spec/11, spec/12) -/

/-- Outside a reset OPEN is high exactly while the host path is not CLOSED (R6), and ATTN# is low exactly while a
cause is both pending and in the mask (R167); in a reset OPEN is low and ATTN# high (R171). MSDO drives the
response bytes in phase RESPONDING and 0xFF in the other phases of a frame (R156); with no frame in progress it
drives 0xFF, which is the model's choice (log 30). -/
def Obligations.TheOutputPinsFollowTheState : Prop :=
  ∀ s : State,
    (s.openPin = true ↔
      s.inReset = false ∧ s.jc.state ≠ .recovering ∧ s.jc.state ≠ .aborting ∧ s.jc.state ≠ .formatting)
    ∧ (s.attnLow = true ↔
      s.inReset = false
        ∧ ∃ i, i < 6 ∧ s.attn.pending.getLsbD i = true ∧ s.attn.mask.getLsbD i = true)
    ∧ (∀ k, s.frame = some k → k.phase = .responding → s.msdo = k.response)
    ∧ (∀ k, s.frame = some k → k.phase ≠ .responding → s.msdo = [0xFF])
    ∧ (s.frame = none → s.msdo = [0xFF])

/-! ## The host ports (spec/05, spec/12) -/

/-- An IDLE port takes a presented transaction whole: the byte address is the word address times 4, the length
the code plus one, and the port enters DECIDING; both strobes make a read. A port not in IDLE takes none. The
response is given with HA_ERR high exactly for a transaction that holds a refusal reason, a read's words with it,
and the port enters IDLE with its record absent (spec/05 section 5.1, spec/12 section 12.1). Where the response
stands, in the field `bus`, empty from a presentation on, is the model's own latch (log 14); that a presentation
is well formed, with one set of byte enables and no data for a read, is log 15. -/
def Obligations.APresentationAndItsResponse : Prop :=
  (∀ (p : Port) (q : Presentation) (s : State), s.inReset = false → q.wf = true →
    ((s.port p).stage = .idle →
      exec (.hostPresentation p q) s = .next (s.setPort p
        { stage := .deciding
          txn := some {
            kind := if q.rd then .read else .write
            bothStrobes := q.rd && q.wr
            addr := q.word.toNat * 4
            len := q.bl.toNat + 1
            enables := q.enables
            data := q.data
            resolution := none
            reason := none
            readData := none
            wasHeld := false }
          bus := none }))
    ∧ ((s.port p).stage ≠ .idle → exec (.hostPresentation p q) s = .next s))
  ∧ ∀ (p : Port) (s : State) (x : Txn), s.inReset = false → (s.port p).stage = .responding →
    (s.port p).txn = some x →
    exec (.hostResponse p) s = .next (s.setPort p
      { stage := .idle
        txn := none
        bus := some ⟨decide (x.reason ≠ none), match x.readData with | some ws => ws | none => []⟩ })

/-- The policy decision refuses a transaction by the first of checks 1a to 7 that applies: the port sets the
reason, clears the resolution, gives a read all-zero data and enters RESPONDING; the first report fills the
fault record, later ones count up to 65,535, and a refused write raises WRITE_REFUSED. No memory is touched and
nothing is requested (spec/05 sections 5.2 and 5.4). -/
def Obligations.ThePolicyDecisionRefuses : Prop :=
  ∀ (p : Port) (s : State) (x : Txn) (why : Reason), s.inReset = false → s.arbiterSound →
    (s.port p).stage = .deciding → (s.port p).txn = some x →
    (let malformed := x.bothStrobes = true ∨ 8 < x.addr / 4 % 8 + x.len
     let inRange := x.addr < s.memSize.lines * 64
     let closed := s.jc.state = .recovering ∨ s.jc.state = .aborting ∨ s.jc.state = .formatting
     let resolved := s.decoder.resolve (x.addr / 64)
     (malformed ∧ why = .malformed)
     ∨ (¬ malformed ∧ ¬ inRange ∧ why = .outOfRange)
     ∨ (¬ malformed ∧ inRange ∧ closed ∧ why = .pathClosed)
     ∨ (¬ malformed ∧ inRange ∧ ¬ closed ∧ x.kind = .write ∧ resolved = .reserved ∧ why = .reservedArea)
     ∨ (¬ malformed ∧ inRange ∧ ¬ closed ∧ x.kind = .write ∧ (∃ w, resolved = .covered .guarded w)
          ∧ why = .guarded)
     ∨ (¬ malformed ∧ inRange ∧ x.kind = .write ∧ (∃ pol w, resolved = .covered pol w ∧ pol ≠ .guarded)
          ∧ s.jc.state = .damaged ∧ why = .damaged)
     ∨ (¬ malformed ∧ inRange ∧ ¬ closed ∧ x.kind = .write
          ∧ (∃ pol w, resolved = .covered pol w ∧ pol ≠ .guarded)
          ∧ s.jc.state ≠ .damaged ∧ s.fence.state ≠ .normal ∧ s.fence.action = .refuse
          ∧ why = .fenceRefused)) →
    exec (.policyDecision p) s = .next (({ s with
      attn := { s.attn with
        pending := if x.kind = .write then s.attn.pending ||| 16 else s.attn.pending
        fault := match s.attn.fault with
          | some r => some r
          | none => some ⟨p, x.kind, x.addr, x.enables.headD 0, x.len, why, s.jc.epoch⟩
        count := match s.attn.fault with
          | some _ => min (s.attn.count + 1) 65535
          | none => 0 } } : State).setPort p
        { s.port p with
          stage := .responding
          txn := some { x with
            reason := some why
            resolution := none
            readData := if x.kind = .read then some (List.replicate x.len 0) else none } })

/-- A well-formed read in range is performed whenever the path is not CLOSED, whatever its address resolves to:
the port enters IN_MEMORY and requests one read of the burst's words, and nothing else changes (spec/05 section
5.2). -/
def Obligations.ThePolicyDecisionPerformsReads : Prop :=
  ∀ (p : Port) (s : State) (x : Txn), s.inReset = false → s.arb.request (portRequester p) = none →
    (s.port p).stage = .deciding → (s.port p).txn = some x →
    x.bothStrobes = false → x.addr / 4 % 8 + x.len ≤ 8 → x.addr < s.memSize.lines * 64 →
    s.jc.state ≠ .recovering → s.jc.state ≠ .aborting → s.jc.state ≠ .formatting → x.kind = .read →
    ∃ t, exec (.policyDecision p) s = .next t
      ∧ t = ({ s with arb := t.arb, free := t.free } : State).setPort p { s.port p with stage := .inMemory }
      ∧ s.nowHas t (portRequester p) (readOf .hostRead x.addr x.len)

/-- A write that passes checks 1a to 7 and finds a holding cause is held: its resolution is cleared, nothing is
requested, queued or reported (spec/05 sections 5.2 and 5.3). -/
def Obligations.ThePolicyDecisionHolds : Prop :=
  ∀ (p : Port) (s : State) (x : Txn) (pol : Policy) (w : Nat), s.inReset = false → s.arbiterSound →
    (s.port p).stage = .deciding → (s.port p).txn = some x →
    x.bothStrobes = false → x.addr / 4 % 8 + x.len ≤ 8 → x.addr < s.memSize.lines * 64 →
    x.kind = .write → s.decoder.resolve (x.addr / 64) = .covered pol w → pol ≠ .guarded →
    (((s.jc.state = .committing ∨ s.jc.state = .applying)
        ∧ (s.fence.state = .normal ∨ s.fence.action = .hold))
      ∨ ((s.jc.state = .unformatted ∨ s.jc.state = .active)
        ∧ s.fence.state ≠ .normal ∧ s.fence.action = .hold)) →
    exec (.policyDecision p) s = .next (s.setPort p
      { s.port p with stage := .held, txn := some { x with resolution := none, wasHeld := true } })

/-- A write that passes checks 1a to 8 with the path OPEN and the fence NORMAL: with no byte enables it is
complete at once; DIRECT, or JOURNALED to a tracked line, it requests its own memory write; JOURNALED to an
untracked line it joins the tail of the capture queue with its line and window number (spec/05 sections 5.2 and
5.5). -/
def Obligations.ThePolicyDecisionTakesWrites : Prop :=
  ∀ (p : Port) (s : State) (x : Txn) (pol : Policy) (w : Nat), s.inReset = false →
    s.arb.request (portRequester p) = none →
    (s.port p).stage = .deciding → (s.port p).txn = some x →
    x.bothStrobes = false → x.addr / 4 % 8 + x.len ≤ 8 → x.addr < s.memSize.lines * 64 →
    x.kind = .write → s.decoder.resolve (x.addr / 64) = .covered pol w → pol ≠ .guarded →
    (s.jc.state = .unformatted ∨ s.jc.state = .active) → s.fence.state = .normal →
    ((∀ be ∈ x.enables, be = 0) → s.arbiterSound →
      exec (.policyDecision p) s = .next (s.setPort p
        { s.port p with stage := .responding, txn := some { x with resolution := some (.covered pol w) } }))
    ∧ ((∃ be ∈ x.enables, be ≠ 0) → (pol = .direct ∨ x.addr / 64 ∈ s.filter.lines) →
      ∃ t, exec (.policyDecision p) s = .next t
        ∧ t = ({ s with arb := t.arb, free := t.free } : State).setPort p
            { s.port p with stage := .inMemory, txn := some { x with resolution := some (.covered pol w) } }
        ∧ s.nowHas t (portRequester p)
            (some ⟨.hostWrite, x.addr, x.len, hostCells x.enables x.data⟩))
    ∧ ((∃ be ∈ x.enables, be ≠ 0) → pol = .journaled → x.addr / 64 ∉ s.filter.lines → s.arbiterSound →
      exec (.policyDecision p) s = .next (({ s with
        engine := { s.engine with queue := s.engine.queue ++ [⟨p, x.addr / 64, w⟩] } } : State).setPort p
          { s.port p with
            stage := .captureWait, txn := some { x with resolution := some (.covered pol w) } }))

/-- A host read completes: its words are held, lane n of word j being byte address + 4j + n, with OKAY; with
MERR on any word it ends in ERROR with all-zero data and the report, and no cause is raised. Here no drain
waits for the port (spec/05 sections 5.2 and 5.4, spec/12 section 12.3; the byte lanes are the model's reading,
log 6). -/
def Obligations.AHostReadCompletes : Prop :=
  ∀ (p : Port) (s : State) (op : MemOp) (x : Txn), s.inPort (portRequester p) .hostRead op →
    (s.port p).txn = some x → p ∉ s.jc.drain →
    (∃ t ws, exec (.hostReadComplete p false) s = .next t
      ∧ t = ({ s with arb := t.arb, free := t.free } : State).setPort p
          { s.port p with stage := .responding, txn := some { x with readData := some ws } }
      ∧ s.nowHas t (portRequester p) none
      ∧ ws.length = op.words
      ∧ ∀ j n, j < op.words → n < 4 →
          (ws.getD j 0).extractLsb' (8 * n) 8 = s.mem.read ((op.addr + 4 * j + n) % addressSpace))
    ∧ ∃ t, exec (.hostReadComplete p true) s = .next t
      ∧ s.nowHas t (portRequester p) none
      ∧ t = ({ s with
          arb := t.arb
          free := t.free
          attn := { s.attn with
            pending := if x.kind = .write then s.attn.pending ||| 16 else s.attn.pending
            fault := match s.attn.fault with
              | some r => some r
              | none => some ⟨p, x.kind, x.addr, x.enables.headD 0, x.len, .memoryReadError, s.jc.epoch⟩
            count := match s.attn.fault with
              | some _ => min (s.attn.count + 1) 65535
              | none => 0 } } : State).setPort p
          { s.port p with
            stage := .responding
            txn := some { x with
              reason := some .memoryReadError
              resolution := none
              readData := if x.kind = .read then some (List.replicate x.len 0) else none } }

/-- A host write completes: each byte whose enable was asserted holds the byte its lane carried, every other
byte of memory keeps its value, the port enters RESPONDING with OKAY, and a Capture Engine that waited for this
write becomes idle. Here no drain waits for the port (spec/05 sections 5.2 and 5.5, spec/12 sections 12.1 and
12.3; the byte lanes are the model's reading, log 6). -/
def Obligations.AHostWriteStoresItsEnabledBytes : Prop :=
  ∀ (p : Port) (s : State) (x : Txn),
    s.inPort (portRequester p) .hostWrite ⟨.hostWrite, x.addr, x.len, hostCells x.enables x.data⟩ →
    (s.port p).txn = some x → p ∉ s.jc.drain →
    x.enables.length = x.len → x.data.length = x.len → x.len ≤ 8 →
    ∃ t, exec (.hostWriteComplete p) s = .next t
      ∧ (∀ j n, j < x.len → n < 4 →
          t.mem.read ((x.addr + 4 * j + n) % addressSpace)
            = if (x.enables.getD j 0).getLsbD n then (x.data.getD j 0).extractLsb' (8 * n) 8
              else s.mem.read ((x.addr + 4 * j + n) % addressSpace))
      ∧ (∀ a, (∀ i, i < 4 * x.len → a ≠ (x.addr + i) % addressSpace) → t.mem.read a = s.mem.read a)
      ∧ t = ({ s with
          mem := t.mem
          arb := t.arb
          free := t.free
          engine := match s.engine.current with
            | some ⟨e, .hit⟩ => if e.port = p then { s.engine with current := none } else s.engine
            | some ⟨e, .captured⟩ => if e.port = p then { s.engine with current := none } else s.engine
            | _ => s.engine } : State).setPort p { s.port p with stage := .responding }
      ∧ s.nowHas t (portRequester p) none

/-! ## The Capture Engine and the Capture Filter (spec/04, spec/05) -/

/-- An idle engine takes the head of the queue and looks its line up again: a tracked line hands the write back
to its port, which requests its memory write; an untracked one begins the capture with the read of the line's
16 words (spec/04 section 4.3, spec/05 sections 5.5 and 5.6). -/
def Obligations.TheEngineTakesTheHeadOfTheQueue : Prop :=
  ∀ (s : State) (e : Entry) (rest : List Entry) (x : Txn), s.inReset = false → s.engine = ⟨e :: rest, none⟩ →
    (s.port e.port).txn = some x → s.arb.request (portRequester e.port) = none →
    s.arb.request .capture = none →
    (e.line ∈ s.filter.lines →
      ∃ t, exec .captureTake s = .next t
        ∧ t = ({ s with
            engine := ⟨rest, some ⟨e, .hit⟩⟩, arb := t.arb, free := t.free } : State).setPort e.port
            { s.port e.port with stage := .inMemory }
        ∧ s.nowHas t (portRequester e.port)
            (some ⟨.hostWrite, x.addr, x.len, hostCells x.enables x.data⟩))
    ∧ (e.line ∉ s.filter.lines →
      ∃ t, exec .captureTake s = .next t
        ∧ t = { s with engine := ⟨rest, some ⟨e, .reading⟩⟩, arb := t.arb, free := t.free }
        ∧ s.nowHas t .capture (readOf .lineRead (e.line * 64) 16))

/-- The line read of a capture completes: without MERR the engine keeps the 64 bytes of the line and asks for a
slot; with MERR the write is refused with CAPTURE_FAILED, reported with WRITE_REFUSED, and fill and filter
stay. Here no drain waits for the port (spec/05 section 5.6; the phase between the read and the answer to the
reservation is the model's own, log 10). -/
def Obligations.ALineReadCompletes : Prop :=
  ∀ (s : State) (op : MemOp) (e : Entry) (q : List Entry) (x : Txn), s.inPort .capture .lineRead op →
    s.engine = ⟨q, some ⟨e, .reading⟩⟩ →
    (∃ t, exec (.lineReadComplete false) s = .next t
      ∧ t = { s with
          engine := ⟨q, some ⟨e, .reserving (s.bytesRead op)⟩⟩, arb := t.arb, free := t.free }
      ∧ s.nowHas t .capture none)
    ∧ ((s.port e.port).txn = some x → x.kind = .write → e.port ∉ s.jc.drain →
      ∃ t, exec (.lineReadComplete true) s = .next t
        ∧ s.nowHas t .capture none
        ∧ t = ({ s with
            engine := ⟨q, none⟩
            arb := t.arb
            free := t.free
            attn := { s.attn with
              pending := s.attn.pending ||| 16
              fault := match s.attn.fault with
                | some r => some r
                | none =>
                  some ⟨e.port, .write, x.addr, x.enables.headD 0, x.len, .captureFailed, s.jc.epoch⟩
              count := match s.attn.fault with
                | some _ => min (s.attn.count + 1) 65535
                | none => 0 } } : State).setPort e.port
            { s.port e.port with
              stage := .responding
              txn := some { x with
                reason := some .captureFailed, resolution := none, readData := none } })

/-- A reservation is answered against fill and the active geometry. Granted, slot fill is reserved, fill itself
stays, and the 20 words of the capture record are requested at the slot's address; failed, the write is refused
with JOURNAL_FULL, whose cause alone is raised, and fill and filter stay. Here no drain waits for the port
(spec/02 section 2.4, spec/05 section 5.6). -/
def Obligations.AReservationTakesSlotFillOrFails : Prop :=
  ∀ (s : State) (e : Entry) (q : List Entry) (image : List Byte) (g : Geometry) (x : Txn),
    s.inReset = false → s.engine = ⟨q, some ⟨e, .reserving image⟩⟩ → s.jc.geom = some g →
    s.arb.request .capture = none → image.length = 64 →
    (s.jc.fill < g.count →
      ∃ t, exec .slotReservation s = .next t
        ∧ t = { s with
            engine := ⟨q, some ⟨e, .writing s.jc.fill⟩⟩, arb := t.arb, free := t.free }
        ∧ s.nowHas t .capture (writeOf .recordWrite (slotAt g s.jc.fill) 20
            (captureRecord e.window s.jc.fill e.line s.jc.epoch image)))
    ∧ (g.count ≤ s.jc.fill → s.arbiterSound → (s.port e.port).txn = some x → x.kind = .write →
      e.port ∉ s.jc.drain →
      exec .slotReservation s = .next (({ s with
        engine := ⟨q, none⟩
        attn := { s.attn with
          pending := s.attn.pending ||| 8
          fault := match s.attn.fault with
            | some r => some r
            | none => some ⟨e.port, .write, x.addr, x.enables.headD 0, x.len, .journalFull, s.jc.epoch⟩
          count := match s.attn.fault with
            | some _ => min (s.attn.count + 1) 65535
            | none => 0 } } : State).setPort e.port
        { s.port e.port with
          stage := .responding
          txn := some { x with reason := some .journalFull, resolution := none, readData := none } }))

/-- The record write completes: its bytes are durable, fill rises by one, JOURNAL_LOW is raised exactly when
the new fill equals an alert threshold other than 0, and the engine goes on to the insertion (spec/02 sections
2.3 and 2.5, spec/05 section 5.6). -/
def Obligations.ACompletedRecordIsCounted : Prop :=
  ∀ (s : State) (op : MemOp) (e : Entry) (q : List Entry) (k : Nat), s.inPort .capture .recordWrite op →
    op.cells.length ≤ 80 → s.engine = ⟨q, some ⟨e, .writing k⟩⟩ →
    ∃ t, exec .recordWriteComplete s = .next t
      ∧ s.mem.storedBy t.mem op
      ∧ t = { s with
          mem := t.mem
          arb := t.arb
          free := t.free
          engine := ⟨q, some ⟨e, .inserting k⟩⟩
          jc := { s.jc with fill := s.jc.fill + 1 }
          attn := { s.attn with
            pending := if s.store.active.alert ≠ 0 ∧ s.jc.fill + 1 = s.store.active.alert
              then s.attn.pending ||| 4 else s.attn.pending } }
      ∧ s.nowHas t .capture none

/-- The insertion adds an absent line below capacity, changes nothing for a present one, and sets SATURATED on
a full set; in all three cases the write is handed back and its port requests the memory write (spec/04 section
4.4, spec/05 section 5.6). -/
def Obligations.TheFilterTakesAnInsertion : Prop :=
  ∀ (s : State) (e : Entry) (q : List Entry) (k : Nat) (x : Txn), s.inReset = false →
    s.engine = ⟨q, some ⟨e, .inserting k⟩⟩ → (s.port e.port).txn = some x →
    s.arb.request (portRequester e.port) = none →
    ∃ t, exec .filterInsertion s = .next t
      ∧ t = ({ s with
          filter := t.filter
          engine := ⟨q, some ⟨e, .captured⟩⟩
          arb := t.arb
          free := t.free } : State).setPort e.port { s.port e.port with stage := .inMemory }
      ∧ (e.line ∈ s.filter.lines → t.filter = s.filter)
      ∧ (e.line ∉ s.filter.lines → s.filter.lines.length < 1024 →
          (∀ l, l ∈ t.filter.lines ↔ l = e.line ∨ l ∈ s.filter.lines)
            ∧ t.filter.lines.length = s.filter.lines.length + 1
            ∧ t.filter.saturated = s.filter.saturated)
      ∧ (e.line ∉ s.filter.lines → 1024 ≤ s.filter.lines.length →
          t.filter = { s.filter with saturated := true })
      ∧ s.nowHas t (portRequester e.port)
          (some ⟨.hostWrite, x.addr, x.len, hostCells x.enables x.data⟩)

/-! ## The operation commands (spec/01 section 1.6, spec/05 section 5.7, spec/07, spec/09) -/

/-- COMMIT, ABORT, FORMAT and APPLY are decided by the checks in order: the first that fails gives the result,
and a refused command changes nothing (R16). Check 1 is the Management Port's: the CRC-8 and the argument
length. -/
def Obligations.OperationCommandsAreDecidedInOrder : Prop :=
  ∀ (c : Instr) (code : Byte) (f : FrameTail) (s : State), s.takesBytes → s.arbiterSound →
    ((c = .commit f ∧ code = 0x10) ∨ (c = .abort f ∧ code = 0x11) ∨ (c = .format f ∧ code = 0x12)
      ∨ (c = .apply f ∧ code = 0x13)) →
    ∃ t, exec c s = .next t ∧
      ∃ r data, t.frame = answered code f r data ∧ (r ≠ .accepted → t = { s with frame := t.frame })
        ∧ (r, data) =
          (if goodCrc code f = false then (.frameError, [])
          else if f.args ≠ [] then (.invalidArgument, [])
          else if s.jc.op ≠ .none then (.busy, [s.jc.op.code])
          else if s.fence.state ≠ .normal then (.fenced, [s.fence.state.code])
          else if ¬ (s.jc.state = .active ∨ (s.jc.state = .damaged ∧ code ≠ 0x13)
              ∨ (s.jc.state = .unformatted ∧ code = 0x12)) then
            (.wrongState, [s.jc.state.code, s.fence.state.code])
          else if (code = 0x12 ∨ code = 0x13) ∧ s.store.staging ≠ .ready then (.notReady, [])
          else if code = 0x12 ∧ s.jc.state = .active ∧ s.jc.fill ≠ 0 then
            (.notEmpty, beBytes 2 s.jc.fill)
          else if code = 0x13 ∧ s.jc.geom ≠ some s.store.stagedGeom then (.geometryChanged, [])
          else ((.accepted : Result), ([] : List Byte)))

/-- An operation command that passes its checks outside DAMAGED while a host transaction is in CAPTURE_WAIT or
IN_MEMORY sets its long-operation state, its name and the drain, which is the ports of those transactions; the
Journal Controller requests nothing yet and nothing else changes (spec/01 section 1.6, spec/05 section 5.7; the
drain as a list of ports is the model's own form, log 24). -/
def Obligations.AnAcceptedOperationDrainsFirst : Prop :=
  ∀ (c : Instr) (code : Byte) (st : JournalState) (o : LongOp) (f : FrameTail) (s : State),
    s.takesBytes → s.arbiterSound → f.args = [] → goodCrc code f = true → s.jc.op = .none →
    s.fence.state = .normal → s.noneRetaking →
    ((c = .commit f ∧ code = 0x10 ∧ st = .committing ∧ o = .commit ∧ s.jc.state = .active)
      ∨ (c = .abort f ∧ code = 0x11 ∧ st = .aborting ∧ o = .abort ∧ s.jc.state = .active)
      ∨ (c = .format f ∧ code = 0x12 ∧ st = .formatting ∧ o = .format ∧ s.store.staging = .ready
          ∧ (s.jc.state = .unformatted ∨ (s.jc.state = .active ∧ s.jc.fill = 0)))
      ∨ (c = .apply f ∧ code = 0x13 ∧ st = .applying ∧ o = .apply ∧ s.jc.state = .active
          ∧ s.store.staging = .ready ∧ s.jc.geom = some s.store.stagedGeom)) →
    ∀ d : List Port,
      d = (if s.portA.stage = .captureWait ∨ s.portA.stage = .inMemory then [.a] else [])
        ++ (if s.portB.stage = .captureWait ∨ s.portB.stage = .inMemory then [.b] else []) →
      d ≠ [] →
      exec c s = .next { s with
        frame := answered code f .accepted []
        jc := { s.jc with state := st, op := o, step := some .draining, drain := d } }

/-- With nothing to drain, the drain is complete at the acceptance itself, and the operation's own work begins
there: the epoch advance of COMMIT, the rollback of ABORT over the fill, the scrub of FORMAT's staged geometry,
APPLY's anchor, or its end with NOT_EMPTY when fill is above 0 (spec/05 section 5.7, spec/07 sections 7.2, 7.4
and 7.5, spec/09 sections 9.5 and 9.6). -/
def Obligations.AnAcceptedOperationWithNothingToDrainBegins : Prop :=
  ∀ (c : Instr) (code : Byte) (st : JournalState) (o : LongOp) (f : FrameTail) (s : State) (g : Geometry),
    s.takesBytes → f.args = [] → goodCrc code f = true → s.jc.op = .none →
    s.fence.state = .normal → s.eightWindows → s.noneRetaking →
    ((c = .commit f ∧ code = 0x10 ∧ st = .committing ∧ o = .commit ∧ s.jc.state = .active
          ∧ s.jc.geom = some g)
      ∨ (c = .abort f ∧ code = 0x11 ∧ st = .aborting ∧ o = .abort ∧ s.jc.state = .active
          ∧ s.jc.geom = some g)
      ∨ (c = .format f ∧ code = 0x12 ∧ st = .formatting ∧ o = .format ∧ s.store.staging = .ready
          ∧ (s.jc.state = .unformatted ∨ (s.jc.state = .active ∧ s.jc.fill = 0)))
      ∨ (c = .apply f ∧ code = 0x13 ∧ st = .applying ∧ o = .apply ∧ s.jc.state = .active
          ∧ s.store.staging = .ready ∧ s.store.stagedGeom = g ∧ s.jc.geom = some g)) →
    (∀ p, (s.port p).stage ≠ .captureWait ∧ (s.port p).stage ≠ .inMemory) →
    ∃ t, exec c s = .next t
      ∧ ({ s with
          frame := answered code f .accepted []
          jc := { s.jc with state := st, op := o, step := some .draining, drain := [] } } : State).beginsWork t g

/-- COMMIT, ABORT and FORMAT accepted in DAMAGED drain nothing: COMMIT begins the epoch advance at once, ABORT
scans the journal again from slot 0, and FORMAT begins its scrub (spec/07 sections 7.3 and 7.6, spec/09 section
9.6). -/
def Obligations.OperationsBeginAtOnceInDamaged : Prop :=
  ∀ (f : FrameTail) (s : State) (g : Geometry), s.takesBytes → f.args = [] → s.jc.op = .none →
    s.fence.state = .normal → s.jc.state = .damaged → s.jc.geom = some g → s.jc.drain = [] → s.eightWindows →
    s.noneRetaking →
    (goodCrc 0x10 f = true →
      ∃ t, exec (.commit f) s = .next t
        ∧ t = { s with
            frame := answered 0x10 f .accepted []
            jc := { s.jc with state := .committing, op := .commit, step := some .advancing }
            anchors := t.anchors, arb := t.arb, free := t.free }
        ∧ s.advances t g)
    ∧ (goodCrc 0x11 f = true → 0 < g.count →
      ∃ t, exec (.abort f) s = .next t
        ∧ t = { s with
            frame := answered 0x11 f .accepted []
            jc := { s.jc with
              state := .aborting, op := .abort, step := some .rescanning, scan := some ⟨0, false, 0⟩ }
            arb := t.arb, free := t.free }
        ∧ s.nowHas t .journal (readOf .scanRead (slotAt g 0) 20))
    ∧ (goodCrc 0x12 f = true → s.store.staging = .ready →
      ∃ t, exec (.format f) s = .next t
        ∧ t = { s with
            frame := answered 0x12 f .accepted []
            jc := { s.jc with
              state := .formatting, op := .format, step := some .scrubbing, fill := 0, scrub := some 0 }
            filter := ⟨[], false⟩, arb := t.arb, free := t.free }
        ∧ s.nowHas t .journal (writeOf .scrubWrite (slotAt s.store.stagedGeom 0) 20 (emptyRecord 0)))

/-- A transaction of the drain that reaches RESPONDING leaves the drain; while another is waited for, nothing
more happens, and with the last one the operation's own work begins at the same event (spec/05 section 5.7).
`u` is what the event leaves when no drain waits. -/
def Obligations.TheDrainEndsWithTheLastResponse : Prop :=
  ∀ (c : Instr) (p : Port) (op : MemOp) (x : Txn) (s u : State) (g : Geometry),
    (s.port p).txn = some x →
    ((c = .hostWriteComplete p ∧ s.inPort (portRequester p) .hostWrite op)
      ∨ (c = .hostReadComplete p false ∧ s.inPort (portRequester p) .hostRead op)
      ∨ (c = .hostReadComplete p true ∧ s.inPort (portRequester p) .hostRead op)
      ∨ (∃ e q, c = .lineReadComplete true ∧ s.inPort .capture .lineRead op ∧ e.port = p
          ∧ s.engine = ⟨q, some ⟨e, .reading⟩⟩)
      ∨ (∃ e q image, c = .slotReservation ∧ s.inReset = false ∧ e.port = p
          ∧ s.engine = ⟨q, some ⟨e, .reserving image⟩⟩ ∧ g.count ≤ s.jc.fill)) →
    (s.jc.geom = some g ∨ (s.jc.geom = none ∧ s.jc.op = .format)) → s.eightWindows →
    exec c { s with jc := { s.jc with drain := [] } } = .next u →
    (∀ q, q ≠ p → (s.jc.drain = [p, q] ∨ s.jc.drain = [q, p]) →
      ∃ t, exec c s = .next t
        ∧ t = { u with jc := { u.jc with drain := [q] }, arb := t.arb, free := t.free }
        ∧ ∀ r, t.outstanding r = u.outstanding r)
    ∧ (s.jc.drain = [p] → ∃ t, exec c s = .next t ∧ u.beginsWork t g)

/-! ## The Configuration Store (spec/09) -/

/-- STAGE_WRITE replaces every field of one item and sets DRAFT; in RECOVERING, APPLYING and FORMATTING a legal
item receives BUSY, and an illegal field INVALID_ARGUMENT, with nothing changed (spec/09 sections 9.2 and 9.3,
spec/13 section 13.2). -/
def Obligations.StageWriteReplacesOneItem : Prop :=
  ∀ (f : FrameTail) (s : State), s.takesBytes → s.arbiterSound → goodCrc 0x20 f = true →
    let number (b3 b2 b1 b0 : Byte) := 16777216 * b3.toNat + 65536 * b2.toNat + 256 * b1.toNat + b0.toNat
    let locked := s.jc.state = .recovering ∨ s.jc.state = .applying ∨ s.jc.state = .formatting
    let takes (legal : Prop) (store : Store) :=
      (¬ legal → exec (.stageWrite f) s = .next { s with frame := answered 0x20 f .invalidArgument [] })
      ∧ (legal → locked → exec (.stageWrite f) s = .next { s with frame := answered 0x20 f .busy [s.jc.op.code] })
      ∧ (legal → ¬ locked → exec (.stageWrite f) s
          = .next { s with frame := answered 0x20 f .ok [], store := { store with staging := .draft } })
    (∀ b3 b2 b1 b0 c1 c0 : Byte, f.args = [0x10, b3, b2, b1, b0, c1, c0] →
      takes (number b3 b2 b1 b0 ≤ 262143)
        { s.store with stagedGeom := ⟨number b3 b2 b1 b0, 256 * c1.toNat + c0.toNat⟩ })
    ∧ (∀ d a1 a0 x m : Byte, f.args = [0x20, d, a1, a0, x, m] →
      takes (1 ≤ d.toNat ∧ d.toNat ≤ 3 ∧ x.toNat ≤ 1 ∧ m.toNat ≤ 1)
        { s.store with staged := { s.store.staged with
            default := if d = 1 then .journaled else if d = 2 then .direct else .guarded
            alert := 256 * a1.toNat + a0.toNat
            action := if x = 0 then .hold else .refuse
            mode := if m = 0 then .level else .latched } })
    ∧ ∀ n f3 f2 f1 f0 l3 l2 l1 l0 p : Byte, f.args = [n, f3, f2, f1, f0, l3, l2, l1, l0, p] → n.toNat ≤ 7 →
      takes (number f3 f2 f1 f0 ≤ 262143 ∧ number l3 l2 l1 l0 ≤ 262143 ∧ p.toNat ≤ 3)
        { s.store with staged := { s.store.staged with
            windows := s.store.staged.windows.set n.toNat
              ⟨number f3 f2 f1 f0, number l3 l2 l1 l0,
                if p = 0 then none else if p = 1 then some .journaled
                else if p = 2 then some .direct else some .guarded⟩ } }

/-- STAGE_READ returns an item with the staging state and changes nothing; an unlisted item receives
INVALID_ARGUMENT, and a listed one BUSY in RECOVERING (spec/09 section 9.3, spec/13 section 13.2). -/
def Obligations.StageReadReturnsOneItem : Prop :=
  ∀ (f : FrameTail) (s : State) (i : Byte), s.takesBytes → s.arbiterSound → f.args = [i] →
    goodCrc 0x21 f = true →
    let state : Byte := if s.store.staging = .ready then 0x01 else 0x00
    let c := s.store.staged
    (i ≠ 0x10 → i ≠ 0x20 → 7 < i.toNat →
      exec (.stageRead f) s = .next { s with frame := answered 0x21 f .invalidArgument [] })
    ∧ (i = 0x10 ∨ i = 0x20 ∨ i.toNat ≤ 7 → s.jc.state = .recovering →
      exec (.stageRead f) s = .next { s with frame := answered 0x21 f .busy [s.jc.op.code] })
    ∧ (i = 0x10 → s.jc.state ≠ .recovering →
      exec (.stageRead f) s = .next { s with
        frame := answered 0x21 f .ok
          ([i] ++ beBytes 4 s.store.stagedGeom.base ++ beBytes 2 s.store.stagedGeom.count ++ [state]) })
    ∧ (i = 0x20 → s.jc.state ≠ .recovering →
      exec (.stageRead f) s = .next { s with
        frame := answered 0x21 f .ok
          ([i, c.default.code] ++ beBytes 2 c.alert ++ [c.action.code, c.mode.code] ++ [state]) })
    ∧ ∀ w, i.toNat ≤ 7 → c.windows[i.toNat]? = some w → s.jc.state ≠ .recovering →
      exec (.stageRead f) s = .next { s with
        frame := answered 0x21 f .ok
          ([i] ++ beBytes 4 w.first ++ beBytes 4 w.last ++ [windowPolicyCode w.policy] ++ [state]) }

/-- Whatever a STAGE_WRITE answered OK carried, a STAGE_READ of its item returns byte for byte, with DRAFT: no
bit of an item is dropped or moved on its way in and out (spec/09 section 9.3, spec/13 section 13.2). -/
def Obligations.StagedItemsReadBackAsWritten : Prop :=
  ∀ (f f' : FrameTail) (s t : State), s.takesBytes → s.arbiterSound → s.store.staged.windows.length = 8 →
    exec (.stageWrite f) s = .next t → t.frame = answered 0x20 f .ok [] →
    f'.args = [f.args.headD 0] → goodCrc 0x21 f' = true →
    exec (.stageRead f') { t with frame := s.frame }
      = .next { t with frame := answered 0x21 f' .ok (f.args ++ [0x00]) }

/-- VALIDATE makes the six checks on the staging image in order, each window check over windows 0 to 7 before
the next begins, disabled windows skipped by checks 3 to 5, and reports the first that fails, with the window
number for checks 3 to 5 (R139). A failure leaves DRAFT, a pass READY, and in RECOVERING, APPLYING and
FORMATTING the command receives BUSY (spec/09 section 9.4). -/
def Obligations.ValidateReportsTheFirstFailingCheck : Prop :=
  ∀ (f : FrameTail) (s : State), s.takesBytes → s.arbiterSound → f.args = [] → goodCrc 0x22 f = true →
    let g := s.store.stagedGeom
    let c := s.store.staged
    let extent := (g.count * 5 + 3) / 4
    let lines := s.memSize.lines
    let count := ¬ (16 ≤ g.count ∧ g.count ≤ 49152)
    let beyond := lines - 4 < g.base + extent
    let disordered (w : Window) := w.policy ≠ none ∧ w.last < w.first
    let outside (w : Window) := w.policy ≠ none ∧ lines ≤ w.last
    let reserved (w : Window) := w.policy ≠ none ∧ ∃ l, w.first ≤ l ∧ l ≤ w.last
      ∧ ((g.base ≤ l ∧ l < g.base + extent) ∨ (lines - 4 ≤ l ∧ l < lines))
    let fails (data : List Byte) := exec (.validate f) s = .next { s with
      frame := answered 0x22 f .invalidConfiguration data, store := { s.store with staging := .draft } }
    let locked := s.jc.state = .recovering ∨ s.jc.state = .applying ∨ s.jc.state = .formatting
    (locked → exec (.validate f) s = .next { s with frame := answered 0x22 f .busy [s.jc.op.code] })
    ∧ (¬ locked → count → fails [1])
    ∧ (¬ locked → ¬ count → beyond → fails [2])
    ∧ (∀ n, ¬ locked → ¬ count → ¬ beyond → firstFailing c.windows disordered n →
        fails [3, BitVec.ofNat 8 n])
    ∧ (∀ n, ¬ locked → ¬ count → ¬ beyond → (∀ w ∈ c.windows, ¬ disordered w) →
        firstFailing c.windows outside n → fails [4, BitVec.ofNat 8 n])
    ∧ (∀ n, ¬ locked → ¬ count → ¬ beyond → (∀ w ∈ c.windows, ¬ disordered w) →
        (∀ w ∈ c.windows, ¬ outside w) → firstFailing c.windows reserved n → fails [5, BitVec.ofNat 8 n])
    ∧ (¬ locked → ¬ count → ¬ beyond → (∀ w ∈ c.windows, ¬ disordered w) →
        (∀ w ∈ c.windows, ¬ outside w) → (∀ w ∈ c.windows, ¬ reserved w) → g.count < c.alert → fails [6])
    ∧ (¬ locked → ¬ count → ¬ beyond → (∀ w ∈ c.windows, ¬ disordered w) →
        (∀ w ∈ c.windows, ¬ outside w) → (∀ w ∈ c.windows, ¬ reserved w) → c.alert ≤ g.count →
        exec (.validate f) s = .next { s with
          frame := answered 0x22 f .ok [], store := { s.store with staging := .ready } })

/-! ## The Anchor Unit and the completions of the operations (spec/06, spec/07, spec/09) -/

/-- A copy is read and written in two parts: at the completion of the first 20 words, with or without MERR, the
5 words that follow are requested; and after copy A, which is VALID exactly when its test passes, comes the
first part of copy B (spec/06 sections 6.1 to 6.3). -/
def Obligations.ACopyIsReadAndWrittenInTwoParts : Prop :=
  ∀ (s : State) (op : MemOp) (k : Copy),
    let place := s.memSize.lines * 64 - (if k = .a then 256 else 128)
    (∀ merr, s.inPort .journal .anchorReadFirst op → s.anchors.op = some (.readFirst k) →
      ∃ t, exec (.anchorReadFirstPartComplete merr) s = .next t
        ∧ t = { s with
            anchors := { s.anchors with op := some (.readSecond k (s.bytesRead op) merr) }
            arb := t.arb, free := t.free }
        ∧ s.nowHas t .journal (readOf .anchorReadSecond (place + 80) 5))
    ∧ (∀ merr first m a, s.inPort .journal .anchorReadSecond op →
      s.anchors.op = some (.readSecond .a first m) →
      a = readAnchor (first ++ s.bytesRead op) (m || merr) s.memSize →
      ∃ t, exec (.anchorReadComplete merr) s = .next t
        ∧ t = { s with
            anchors := { s.anchors with
              validA := if a = none then .invalid else .valid, heldA := a, op := some (.readFirst .b) }
            arb := t.arb, free := t.free }
        ∧ s.nowHas t .journal (readOf .anchorReadFirst (s.memSize.lines * 64 - 128) 20))
    ∧ ∀ seq rest, s.inPort .journal .anchorWriteFirst op → s.anchors.op = some (.writeFirst k seq rest) →
      op.cells.length ≤ 80 → rest.length = 20 →
      ∃ t, exec .anchorWriteFirstPartComplete s = .next t
        ∧ s.mem.storedBy t.mem op
        ∧ t = { s with
            mem := t.mem, anchors := { s.anchors with op := some (.writeSecond k seq) }
            arb := t.arb, free := t.free }
        ∧ s.nowHas t .journal (writeOf .anchorWriteSecond (place + 80) 5 rest)

/-- At the end of the recovery reads, which is the completion of copy B's second part, the newest identity and
sequence are set by the validities and the relation of the two sequence numbers, the "+1" relations modulo 2^32
first (R89). -/
def Obligations.TheNewestCopyIsSelected : Prop :=
  ∀ (s : State) (op : MemOp) (merr m : Bool) (first : List Byte) (a b : Option Anchor),
    s.inPort .journal .anchorReadSecond op → s.anchors.op = some (.readSecond .b first m) →
    s.jc.op = .recovery → a = s.anchors.heldA →
    b = readAnchor (first ++ s.bytesRead op) (m || merr) s.memSize →
    ∃ t, exec (.anchorReadComplete merr) s = .next t
      ∧ t.anchors.op = none ∧ t.anchors.validA = s.anchors.validA
      ∧ t.anchors.validB = (if b = none then .invalid else .valid)
      ∧ (a = none → b = none → t.anchors.newest = none ∧ t.anchors.seq = 0)
      ∧ (∀ x, a = some x → b = none → t.anchors.newest = some .a ∧ t.anchors.seq = x.seq)
      ∧ (∀ y, a = none → b = some y → t.anchors.newest = some .b ∧ t.anchors.seq = y.seq)
      ∧ ∀ x y, a = some x → b = some y →
        (y.seq = x.seq + 1 → t.anchors.newest = some .b ∧ t.anchors.seq = y.seq)
        ∧ (x.seq = y.seq + 1 → t.anchors.newest = some .a ∧ t.anchors.seq = x.seq)
        ∧ (y.seq ≠ x.seq + 1 → x.seq ≠ y.seq + 1 → y.seq.toNat ≤ x.seq.toNat →
            t.anchors.newest = some .a ∧ t.anchors.seq = x.seq)
        ∧ (y.seq ≠ x.seq + 1 → x.seq ≠ y.seq + 1 → x.seq.toNat < y.seq.toNat →
            t.anchors.newest = some .b ∧ t.anchors.seq = y.seq)

/-- At the selection recovery takes the chosen anchor's epoch and configuration, in the store and in every
block's copy, and notes the anchor in the working report; phase OPEN starts the scan at slot 0 and phase
SCRUBBING the scrub; with no valid anchor recovery ends UNFORMATTED with the default staging image and the
report handed over (spec/06 section 6.4, spec/08 sections 8.3, 8.4 and 8.7). -/
def Obligations.RecoveryLoadsTheNewestAnchor : Prop :=
  ∀ (s : State) (op : MemOp) (merr m : Bool) (first : List Byte) (a b : Option Anchor) (r : Report),
    s.inPort .journal .anchorReadSecond op → s.anchors.op = some (.readSecond .b first m) →
    s.jc.op = .recovery → s.jc.working = some r → a = s.anchors.heldA →
    b = readAnchor (first ++ s.bytesRead op) (m || merr) s.memSize →
    ∃ t, exec (.anchorReadComplete merr) s = .next t
      ∧ (∀ k x, t.anchors.newest = some k → (if k = .a then a else b) = some x → 0 < x.geom.count →
        let setup := { s with
          anchors := t.anchors, arb := t.arb, free := t.free
          store := { s.store with geom := some x.geom, active := x.setup }
          decoder := ⟨x.setup.windows, x.setup.default,
            some (x.geom.base, x.geom.base + (x.geom.count * 5 + 3) / 4 - 1), s.memSize.lines - 4⟩
          fence := { s.fence with action := x.setup.action, mode := x.setup.mode } }
        let told := some { r with anchor := some k, seq := x.seq, epoch := x.epoch, phase := x.phase }
        (x.phase = .opened →
          t = { setup with jc := { s.jc with
            geom := some x.geom, epoch := x.epoch, working := told, step := some .scanning
            scan := some ⟨0, false, 0⟩ } }
          ∧ s.nowHas t .journal (readOf .scanRead (slotAt x.geom 0) 20))
        ∧ (x.phase = .scrubbing →
          t = { setup with
            filter := ⟨[], false⟩
            jc := { s.jc with
              geom := some x.geom, epoch := x.epoch, working := told, step := some .scrubbing
              fill := 0, scrub := some 0 } }
          ∧ s.nowHas t .journal (writeOf .scrubWrite (slotAt x.geom 0) 20 (emptyRecord 0))))
      ∧ (a = none → b = none → s.store.geom = none →
        t = { s with
          anchors := t.anchors, arb := t.arb, free := t.free
          store := { s.store with
            stagedGeom := ⟨0, 16⟩
            staged := ⟨List.replicate 8 ⟨0, 0, none⟩, .direct, 0, .hold, .level⟩
            staging := .draft }
          jc := { s.jc.ended .unformatted 0 0 with working := none }
          attn := { s.attn with
            report := some { r with outcome := some .unformatted }
            pending := s.attn.pending ||| 2 } }
        ∧ s.nowHas t .journal none)

/-- A COMMIT completes at the completion of its last anchor write: the ADVANCING anchor below the last epoch,
the WRAP_ANCHOR anchor after a wrap. E advances or becomes 1, fill and the filter are emptied, the journal
state is ACTIVE, the last-operation record says DONE and OP_DONE is raised; the written copy is the newest.
Held writes that retake their decision have a statement of their own (spec/07 section 7.2). -/
def Obligations.ACommitCompletes : Prop :=
  ∀ (s : State) (op : MemOp) (k : Copy) (seq e : Word), s.inPort .journal .anchorWriteSecond op →
    op.cells.length ≤ 20 → s.anchors.op = some (.writeSecond k seq) → s.jc.op = .commit → s.noneHeld →
    ((s.jc.step = some .advancing ∧ s.jc.epoch ≠ 4294967295 ∧ e = s.jc.epoch + 1)
      ∨ (s.jc.step = some .wrapAnchor ∧ e = 1)) →
    ∃ t, exec .anchorWriteComplete s = .next t
      ∧ s.mem.storedBy t.mem op
      ∧ t = { s with
          mem := t.mem, arb := t.arb, free := t.free
          anchors := { s.anchors with newest := some k, seq := seq, op := none }
          filter := ⟨[], false⟩
          jc := { s.jc.ended .active e 0 with lastOp := some ⟨.commit, .done, s.jc.epoch, e, 0, [], 0⟩ }
          attn := { s.attn with pending := s.attn.pending ||| 1 } }
      ∧ s.nowHas t .journal none

/-- An ABORT whose every record was applied completes at its last anchor write as a COMMIT does, with the
records applied in the last-operation record; a recovery completes there with ROLLED_BACK, or with
SCRUB_RESUMED when it resumed a scrub, its report handed over, RECOVERY_DONE raised and the active
configuration copied to the staging image in DRAFT (spec/07 section 7.5, spec/08 sections 8.4, 8.6 and 8.7). -/
def Obligations.AnAbortAndARecoveryCompleteAfterTheAdvance : Prop :=
  ∀ (s : State) (op : MemOp) (k : Copy) (seq e : Word) (g : Geometry),
    s.inPort .journal .anchorWriteSecond op → op.cells.length ≤ 20 →
    s.anchors.op = some (.writeSecond k seq) → s.store.geom = some g →
    ((s.jc.step = some .advancing ∧ s.jc.epoch ≠ 4294967295 ∧ e = s.jc.epoch + 1)
      ∨ (s.jc.step = some .wrapAnchor ∧ e = 1)) →
    let durable (t : State) : State := { s with
      mem := t.mem, arb := t.arb, free := t.free
      anchors := { s.anchors with newest := some k, seq := seq, op := none }
      filter := ⟨[], false⟩ }
    let restaged := s.store.copied g
    (∀ rb, s.jc.op = .abort → s.jc.rollback = some rb →
      ∃ t, exec .anchorWriteComplete s = .next t ∧ s.mem.storedBy t.mem op ∧ s.nowHas t .journal none
        ∧ t = { durable t with
            jc := { s.jc.ended .active e 0 with
              lastOp := some ⟨.abort, .done, s.jc.epoch, e, rb.applied, [], 0⟩ }
            attn := { s.attn with pending := s.attn.pending ||| 1 } })
    ∧ (∀ rb r, s.jc.op = .recovery → s.jc.rollback = some rb → s.jc.working = some r →
      ∃ t, exec .anchorWriteComplete s = .next t ∧ s.mem.storedBy t.mem op ∧ s.nowHas t .journal none
        ∧ t = { durable t with
            jc := { s.jc.ended .active e 0 with working := none }
            store := restaged
            attn := { s.attn with
              report := some { r with
                applied := rb.applied, lines := rb.lines, further := rb.further
                outcome := some .rolledBack }
              pending := s.attn.pending ||| 2 } })
    ∧ ∀ r, s.jc.op = .recovery → s.jc.rollback = none → s.jc.working = some r →
      ∃ t, exec .anchorWriteComplete s = .next t ∧ s.mem.storedBy t.mem op ∧ s.nowHas t .journal none
        ∧ t = { durable t with
            jc := { s.jc.ended .active e 0 with working := none }
            store := restaged
            attn := { s.attn with
              report := some { r with outcome := some .scrubResumed }
              pending := s.attn.pending ||| 2 } }

/-- At the last epoch the completed ADVANCING anchor starts the wrap's scrub: fill 0, the filter cleared, slot
0 of the active geometry requested, while E, the journal state and the operation stay (spec/01 section 1.2,
spec/02 section 2.6, spec/07 section 7.2). -/
def Obligations.AnEpochWrapScrubsTheJournal : Prop :=
  ∀ (s : State) (op : MemOp) (k : Copy) (seq : Word) (g : Geometry),
    s.inPort .journal .anchorWriteSecond op → op.cells.length ≤ 20 →
    s.anchors.op = some (.writeSecond k seq) → s.jc.step = some .advancing → s.jc.epoch = 4294967295 →
    s.jc.op ≠ .format → s.jc.geom = some g →
    ∃ t, exec .anchorWriteComplete s = .next t
      ∧ s.mem.storedBy t.mem op
      ∧ t = { s with
          mem := t.mem, arb := t.arb, free := t.free
          anchors := { s.anchors with newest := some k, seq := seq, op := none }
          filter := ⟨[], false⟩
          jc := { s.jc with step := some .scrubbing, fill := 0, scrub := some 0 } }
      ∧ s.nowHas t .journal (writeOf .scrubWrite (slotAt g 0) 20 (emptyRecord 0))

/-- An APPLY completes at its anchor write: the staged windows and settings are in force in every copy, the
geometry, E, fill and the filter stay, and a fence latched under a new mode LEVEL ends with FENCE_CHANGE. Held
writes that retake their decision have a statement of their own (spec/09 section 9.5, spec/10 section 10.5). -/
def Obligations.AnApplyCompletes : Prop :=
  ∀ (s : State) (op : MemOp) (k : Copy) (seq : Word), s.inPort .journal .anchorWriteSecond op →
    op.cells.length ≤ 20 → s.anchors.op = some (.writeSecond k seq) → s.jc.step = some .applyAnchor →
    s.jc.op = .apply → s.noneHeld →
    let c := s.store.staged
    let ends := s.fence.state = .latched ∧ c.mode = .level
    ∃ t, exec .anchorWriteComplete s = .next t
      ∧ s.mem.storedBy t.mem op
      ∧ t = { s with
          mem := t.mem, arb := t.arb, free := t.free
          anchors := { s.anchors with newest := some k, seq := seq, op := none }
          store := { s.store with active := c }
          decoder := { s.decoder with windows := c.windows, default := c.default }
          fence := t.fence
          jc := { s.jc.ended .active s.jc.epoch s.jc.fill with
            lastOp := some ⟨.apply, .done, s.jc.epoch, s.jc.epoch, 0, [], 0⟩ }
          attn := { s.attn with pending := t.attn.pending } }
      ∧ (ends → t.fence = ⟨.normal, c.action, .level⟩ ∧ t.attn.pending = s.attn.pending ||| 33)
      ∧ (¬ ends → t.fence = ⟨s.fence.state, c.action, c.mode⟩ ∧ t.attn.pending = s.attn.pending ||| 1)
      ∧ s.nowHas t .journal none

/-- FORMAT's first anchor is followed by the second with the same content and the next sequence number, into
the other copy; at the second's completion the staging image is the active configuration, geometry and reserved
area included, E is 1, fill and the filter are empty, the part is ACTIVE, and the staging state stays (spec/09
section 9.6). -/
def Obligations.AFormatWritesBothCopiesAndCompletes : Prop :=
  ∀ (s : State) (op : MemOp) (k : Copy) (seq : Word), s.inPort .journal .anchorWriteSecond op →
    op.cells.length ≤ 20 → s.anchors.op = some (.writeSecond k seq) → s.jc.op = .format → s.eightWindows →
    let c := s.store.staged
    let g := s.store.stagedGeom
    let ends := s.fence.state = .latched ∧ c.mode = .level
    let durable (t : State) : State := { s with
      mem := t.mem, arb := t.arb, free := t.free
      anchors := { s.anchors with newest := some k, seq := seq, op := none } }
    (s.jc.step = some .firstAnchor →
      ∃ t, exec .anchorWriteComplete s = .next t
        ∧ s.mem.storedBy t.mem op
        ∧ t = { durable t with jc := { s.jc with step := some .secondAnchor }, anchors := t.anchors }
        ∧ (durable s).beginsAnchor t 1 .opened g c
        ∧ t.anchors.op
            = some (.writeFirst (if k = .a then .b else .a) (seq + 1)
                ((Anchor.mk (seq + 1) 1 .opened g c s.memSize.lines).bytes.drop 80)))
    ∧ (s.jc.step = some .secondAnchor → s.noneHeld →
      ∃ t, exec .anchorWriteComplete s = .next t
        ∧ s.mem.storedBy t.mem op
        ∧ t = { durable t with
            store := { s.store with geom := some g, active := c }
            decoder := ⟨c.windows, c.default, some (g.base, g.base + (g.count * 5 + 3) / 4 - 1),
              s.memSize.lines - 4⟩
            filter := ⟨[], false⟩
            fence := t.fence
            jc := { s.jc.ended .active 1 0 with
              geom := some g, lastOp := some ⟨.format, .done, s.jc.epoch, 1, 0, [], 0⟩ }
            attn := { s.attn with pending := t.attn.pending } }
        ∧ (ends → t.fence = ⟨.normal, c.action, .level⟩ ∧ t.attn.pending = s.attn.pending ||| 33)
        ∧ (¬ ends → t.fence = ⟨s.fence.state, c.action, c.mode⟩ ∧ t.attn.pending = s.attn.pending ||| 1)
        ∧ s.nowHas t .journal none)

/-! ## Scrub, scan and rollback (spec/02, spec/07, spec/08) -/

/-- A scrub writes slot after slot: the completed EMPTY record is followed by the next slot's of the same
geometry, the staged one for FORMAT and the active one otherwise, and after the last slot by FORMAT's first
anchor or the anchor with epoch 1 and phase OPEN (spec/02 section 2.6). -/
def Obligations.AScrubGoesThroughEverySlot : Prop :=
  ∀ (s : State) (op : MemOp) (k : Nat) (g : Geometry), s.inPort .journal .scrubWrite op →
    op.cells.length ≤ 80 → s.jc.scrub = some k →
    (if s.jc.op = .format then s.store.stagedGeom = g else s.jc.geom = some g) → s.eightWindows →
    ∃ t, exec .scrubWriteComplete s = .next t
      ∧ s.mem.storedBy t.mem op
      ∧ (k + 1 < g.count →
          t = { s with
            mem := t.mem, arb := t.arb, free := t.free, jc := { s.jc with scrub := some (k + 1) } }
          ∧ s.nowHas t .journal (writeOf .scrubWrite (slotAt g (k + 1)) 20 (emptyRecord (k + 1))))
      ∧ (g.count ≤ k + 1 →
          t = { s with
            mem := t.mem, arb := t.arb, free := t.free, anchors := t.anchors
            jc := { s.jc with
              scrub := none
              step := some (if s.jc.op = .format then .firstAnchor else .wrapAnchor) } }
          ∧ s.beginsAnchor t 1 .opened g
              (if s.jc.op = .format then s.store.staged else s.store.active))

/-- The scan's read of slot k: a CURRENT slot moves it on, to the read of the next slot or to its end at the
end of the journal; a slot whose check code fails while kind, epoch and index read as CAPTURE, E and k asks for
the look-ahead when slot k + 1 exists and ends the scan as a torn tail when not; any other ends it, with
READ_ERROR for an unreadable slot and EPOCH_BOUNDARY for the rest (spec/08 sections 8.5 and 8.6, spec/07
section 7.6). That the scan keeps the line field of slot k for the look-ahead is the model's (log 18). -/
def Obligations.TheScanTakesASlot : Prop :=
  ∀ (s : State) (op : MemOp) (merr : Bool) (sc : Scan) (g : Geometry) (bs : List Byte) (cls : SlotClass),
    s.inPort .journal .scanRead op → s.jc.scan = some sc → s.jc.geom = some g → s.store.geom = some g → s.eightWindows →
    (s.jc.op = .recovery ∨ s.jc.op = .abort) → bs = s.bytesRead op →
    cls = classify bs merr sc.pos s.jc.epoch →
    let reads := slotKind bs = 0x01 ∧ slotEpoch bs = s.jc.epoch.toNat ∧ slotIndex bs = sc.pos
    ∃ t, exec (.scanReadComplete merr) s = .next t
      ∧ (cls = .current → sc.pos + 1 < g.count →
          t = { s with
            arb := t.arb, free := t.free, jc := { s.jc with scan := some ⟨sc.pos + 1, false, 0⟩ } }
          ∧ s.nowHas t .journal (readOf .scanRead (slotAt g (sc.pos + 1)) 20))
      ∧ (cls = .current → g.count ≤ sc.pos + 1 →
          s.scanEnds t g .endOfJournal none (sc.pos + 1) (sc.pos + 1) [] 0)
      ∧ (cls = .checkFailed → reads → sc.pos + 1 < g.count →
          t = { s with
            arb := t.arb, free := t.free, jc := { s.jc with scan := some ⟨sc.pos, true, slotLine bs⟩ } }
          ∧ s.nowHas t .journal (readOf .lookAheadRead (slotAt g (sc.pos + 1)) 20))
      ∧ (cls = .checkFailed → reads → g.count ≤ sc.pos + 1 →
          s.scanEnds t g .tornTail (some .checkFailed) sc.pos (sc.pos + 1) [] 0)
      ∧ (cls = .unreadable →
          s.scanEnds t g .readError (some .unreadable) sc.pos (sc.pos + 1) [] 1)
      ∧ (((cls = .checkFailed ∧ ¬ reads) ∨ cls = .foreign ∨ cls = .emptySlot ∨ cls = .otherEpoch) →
          s.scanEnds t g .epochBoundary (some cls) sc.pos (sc.pos + 1) [] 0)

/-- The look-ahead decides the stop at slot k: damage, listed by the line field of slot k, when slot k + 1 is a
current record, and a torn tail for any other class (spec/08 sections 8.5 and 8.6, spec/07 section 7.6). The
line field of slot k is kept by the model from the first read (log 18). -/
def Obligations.TheLookAheadDecides : Prop :=
  ∀ (s : State) (op : MemOp) (merr : Bool) (sc : Scan) (g : Geometry), s.inPort .journal .lookAheadRead op →
    s.jc.scan = some sc → s.jc.geom = some g → s.store.geom = some g → s.eightWindows →
    (s.jc.op = .recovery ∨ s.jc.op = .abort) →
    let cls := classify (s.bytesRead op) merr (sc.pos + 1) s.jc.epoch
    ∃ t, exec (.lookAheadReadComplete merr) s = .next t
      ∧ (cls = .current →
          s.scanEnds t g .damageDetected (some .checkFailed) sc.pos (sc.pos + 2) [sc.line] 0)
      ∧ (cls ≠ .current →
          s.scanEnds t g .tornTail (some .checkFailed) sc.pos (sc.pos + 2) [] 0)

/-- The rollback's read of a slot: an applicable record, CURRENT with its line in range and outside the
reserved area, has its image written back to its line; any other is listed by its line field, once, or counted,
and the rollback moves down (spec/07 section 7.4). A completed line write raises records applied and moves it
down. Below slot 0 the rollback ends: in the epoch advance with every record applied, in DAMAGED otherwise. -/
def Obligations.TheRollbackTakesASlot : Prop :=
  ∀ (s : State) (op : MemOp) (rb : Rollback) (g : Geometry), s.jc.rollback = some rb → s.jc.geom = some g →
    s.store.geom = some g → s.eightWindows → (s.jc.op = .recovery ∨ s.jc.op = .abort) → 0 ≤ rb.pos →
    (∀ merr bs cls, s.inPort .journal .rollbackRead op → bs = s.bytesRead op →
      cls = classify bs merr rb.pos.toNat s.jc.epoch →
      let line := slotLine bs
      let applicable := cls = .current ∧ line < s.memSize.lines - 4
        ∧ ¬ (g.base ≤ line ∧ line < g.base + (g.count * 5 + 3) / 4)
      ∃ t, exec (.rollbackReadComplete merr) s = .next t
        ∧ (applicable → op.words = 20 →
            t = { s with arb := t.arb, free := t.free }
            ∧ s.nowHas t .journal (writeOf .lineWrite (line * 64) 16 (slotImage bs)))
        ∧ (cls = .unreadable →
            s.rollbackGoesTo t g { rb with pos := rb.pos - 1, further := min (rb.further + 1) 65535 })
        ∧ (¬ applicable → cls ≠ .unreadable → line ∈ rb.lines → s.rollbackGoesTo t g { rb with pos := rb.pos - 1 })
        ∧ (¬ applicable → cls ≠ .unreadable → line ∉ rb.lines → rb.lines.length < 8 →
            s.rollbackGoesTo t g { rb with pos := rb.pos - 1, lines := rb.lines ++ [line] })
        ∧ (¬ applicable → cls ≠ .unreadable → line ∉ rb.lines → 8 ≤ rb.lines.length →
            s.rollbackGoesTo t g { rb with pos := rb.pos - 1, further := min (rb.further + 1) 65535 }))
    ∧ (s.inPort .journal .lineWrite op → op.cells.length ≤ 64 →
      ∃ t, exec .rollbackLineWriteComplete s = .next t ∧ s.mem.storedBy t.mem op
        ∧ ({ s with mem := t.mem } : State).rollbackGoesTo t g
            { rb with pos := rb.pos - 1, applied := rb.applied + 1 })

/-! ## The records in memory (spec/02, spec/06, spec/13) -/

/-- A copy written from an anchor, read back without MERR, gives the same anchor exactly when the anchor is
legal for the part, and is INVALID otherwise; with MERR, another signature, a check code that does not match, or
an unlisted code in an enumerated field, whatever the check code, a copy is INVALID whatever else it holds
(spec/06 sections 6.1 and 6.3, spec/13 section 13.1). A capture record reads back as the record it is: for its own
slot and epoch CURRENT, for another index FOREIGN, for another epoch OTHER_EPOCH; the EMPTY record of a slot is
EMPTY_SLOT there and FOREIGN elsewhere. Any 80 bytes have the class of the first test that applies: MERR makes the
slot UNREADABLE, a check code that does not match CHECK_FAILED, a kind that is neither CAPTURE nor EMPTY or another
index FOREIGN, the kind EMPTY EMPTY_SLOT whatever the other fields hold, and a CAPTURE of another epoch
OTHER_EPOCH, of the current one CURRENT (spec/02 section 2.2, spec/13 section 13.1). -/
def Obligations.TheRecordsInMemoryReadBackAsWritten : Prop :=
  (∀ (a : Anchor) (m : MemSize) (bs : List Byte),
    (a.geom.base < 4294967296 → a.geom.count < 4294967296 → a.setup.alert < 4294967296 →
      a.memLines < 4294967296 → a.setup.windows.length = 8 →
      (∀ w ∈ a.setup.windows, w.first < 16777216 ∧ w.last < 4294967296) →
      a.bytes.length = 100
      ∧ readAnchor a.bytes false m =
        if a.memLines = m.lines ∧ (a.epoch = 0 ↔ a.phase = .scrubbing)
            ∧ 16 ≤ a.geom.count ∧ a.geom.count ≤ 49152
            ∧ a.geom.base + (a.geom.count * 5 + 3) / 4 ≤ m.lines - 4 ∧ a.setup.alert ≤ a.geom.count
        then some a else none)
    ∧ readAnchor bs true m = none
    ∧ (bs.take 4 ≠ [0xE5, 0x91, 0x3C, 0x6A] → 4 ≤ bs.length → readAnchor bs false m = none)
    ∧ (bs.length = 100 → fromLE (bs.drop 96) ≠ (crc32 (bs.take 96)).toNat → readAnchor bs false m = none)
    ∧ (bs.length = 100 →
        (3 ≤ (bs.getD 12 0).toNat ∨ bs.getD 12 0 = 0 ∨ 4 ≤ (bs.getD 13 0).toNat ∨ bs.getD 13 0 = 0 ∨ 2 ≤ (bs.getD 14 0).toNat
          ∨ 2 ≤ (bs.getD 15 0).toNat ∨ ∃ n, n < 8 ∧ 4 ≤ (bs.getD (32 + 8 * n + 3) 0).toNat) →
        readAnchor bs false m = none))
  ∧ (∀ (window index line : Nat) (epoch : Word) (image : List Byte) (k : Nat) (e : Word) (bs : List Byte),
    image.length = 64 → window < 256 → index < 65536 → line < 4294967296 →
    (captureRecord window index line epoch image).length = 80
    ∧ slotLine (captureRecord window index line epoch image) = line
    ∧ slotImage (captureRecord window index line epoch image) = image
    ∧ classify (captureRecord window index line epoch image) false k e
        = (if k ≠ index then .foreign else if e ≠ epoch then .otherEpoch else .current)
    ∧ (emptyRecord index).length = 80
    ∧ classify (emptyRecord index) false k e = (if k ≠ index then .foreign else .emptySlot)
    ∧ classify bs true k e = .unreadable)
  ∧ ∀ (bs : List Byte) (k : Nat) (e : Word), bs.length = 80 →
    let good := fromLE ((bs.drop 12).take 4) = (crc32 (bs.take 12 ++ bs.drop 16)).toNat
    let index := fromLE ((bs.drop 2).take 2)
    let epoch := fromLE ((bs.drop 8).take 4)
    classify bs true k e = .unreadable
    ∧ (¬ good → classify bs false k e = .checkFailed)
    ∧ (good → bs.head? ≠ some 0x01 → bs.head? ≠ some 0x02 → classify bs false k e = .foreign)
    ∧ (good → index ≠ k → classify bs false k e = .foreign)
    ∧ (good → bs.head? = some 0x02 → index = k → classify bs false k e = .emptySlot)
    ∧ (good → bs.head? = some 0x01 → index = k → epoch ≠ e.toNat → classify bs false k e = .otherEpoch)
    ∧ (good → bs.head? = some 0x01 → index = k → epoch = e.toNat → classify bs false k e = .current)

/-- A line resolves to the reserved area when it is at or above the anchor area's first line or in the journal
extent, and otherwise to the policy of the lowest-numbered enabled window that covers it, or to the default
policy with window number 8 (spec/03 sections 3.2 to 3.4). -/
def Obligations.ALineResolvesInOrder : Prop :=
  ∀ (d : Decoder) (l : Nat),
    let reserved := d.anchorFirst ≤ l ∨ ∃ lo hi, d.extent = some (lo, hi) ∧ lo ≤ l ∧ l ≤ hi
    let covers (w : Window) := w.policy ≠ none ∧ w.first ≤ l ∧ l ≤ w.last
    (reserved → d.resolve l = .reserved)
    ∧ (∀ n w p, ¬ reserved → d.windows[n]? = some w → covers w → w.policy = some p →
        (∀ k v, k < n → d.windows[k]? = some v → ¬ covers v) → d.resolve l = .covered p n)
    ∧ (¬ reserved → (∀ v ∈ d.windows, ¬ covers v) → d.resolve l = .covered d.default 8)

/-! ## The Memory Arbiter (spec/12) -/

/-- A free memory port goes to the first requester in cycle order, starting with the one after the grant pointer,
and the pointer then names it (spec/12 section 12.4). First among which requests is the world's where an event's
own requests meet its grant (log 8): among all that are pending, or, with the completion taken first, among those
that were pending before; and of two host ports alone that request together at an idle port, either may be taken first
(spec/05 sections 5.7 and 5.8). An operation in progress leaves the memory port only at its own completion or at a
reset, whatever is requested meanwhile (spec/12 section 12.3). A SOFT_RESET at the close of its frame, which sets the
pointer anew, has a statement of its own. No step leaves the memory port idle beside a pending request, but where the
next step brings the request of a requester that has none: requests that arrive together are then all pending at the
grant, which the last of them makes (spec/12 section 12.4, log 29). -/
def Obligations.TheArbiterGrantsInCycleOrder : Prop :=
  (∀ (c : Instr) (s t : State) (r : Requester) (op : MemOp), (∀ cut, c ≠ .frameClose cut) → exec c s = .next t →
    (t.arb.current = some (r, op) → t.arb.current ≠ s.arb.current →
      t.arb.pointer = r
        ∧ (s.arb.pointer.firstIn r t.arb
          ∨ (s.arb.request r ≠ none ∧ s.arb.pointer.firstIn r s.arb)
          ∨ (((∀ q, s.arb.request q = none) ∨ s.arb.current = none)
            ∧ t.arb.request .capture = none ∧ t.arb.request .journal = none
            ∧ ((r = .portA ∧ t.arb.request .portB ≠ none) ∨ (r = .portB ∧ t.arb.request .portA ≠ none)))))
    ∧ (s.arb.current = some (r, op) → t.arb.current ≠ s.arb.current →
      completionOf c = some op.purpose ∨ ∃ cut, c = .powerOnResetStart cut ∨ c = .resetPinLow cut))
  ∧ ∀ s t : State, s.grantsMade ∨ s.awaitsRequest → step s = .next t → t.grantsMade ∨ t.awaitsRequest

/-! ## What holds at every command -/

/-- No command changes a byte of memory but the one whose memory write is in progress, completed or cut off,
and that byte then holds what the write carries for it (spec/12 section 12.3). -/
def Obligations.MemoryChangesOnlyUnderAWrite : Prop :=
  ∀ (c : Instr) (s t : State) (a : Nat), exec c s = .next t → t.mem.read a ≠ s.mem.read a →
    ∃ r op i b, s.arb.current = some (r, op) ∧ op.purpose.isWrite = true
      ∧ op.cells[i]? = some (some b) ∧ a = (op.addr + i) % addressSpace ∧ t.mem.read a = b

/-- E changes at no command but the start of a reset, which makes it 0, the completion of the anchor reads, and
the completion of an anchor write (spec/01 section 1.2). -/
def Obligations.TheEpochChangesOnlyAtItsEvents : Prop :=
  ∀ (c : Instr) (s t : State), s.workSound → exec c s = .next t → t.jc.epoch ≠ s.jc.epoch →
    (t.jc.epoch = 0 ∧ t.jc.state = .recovering
      ∧ ∃ cut, c = .powerOnResetStart cut ∨ c = .resetPinLow cut ∨ c = .frameClose cut)
    ∨ (s.jc.state = .recovering ∧ ∃ merr, c = .anchorReadComplete merr)
    ∨ (c = .anchorWriteComplete ∧ t.jc.op = .none ∧ t.jc.state = .active
        ∧ (t.jc.epoch = 1 ∨ t.jc.epoch = s.jc.epoch + 1))

/-- Every command keeps the memory's canonical form (the model's own form, log 4). -/
def Obligations.EveryCommandKeepsTheMemorysForm : Prop :=
  ∀ (c : Instr) (s t : State), s.mem.wf → exec c s = .next t → t.mem.wf

/-- Every command keeps the rules each block has for itself: the filter's set and its flag, the fence state and
PFAIL#, the copies of the active configuration, the arbiter's pointer and purposes, and the ports' records (spec/04
sections 4.2 and 4.5, spec/10 sections 10.2 and 10.5, spec/03 section 3.5, spec/12 section 12.4, spec/05 sections 5.1
and 5.3). -/
def Obligations.EveryCommandKeepsTheBlocksSound : Prop :=
  ∀ (c : Instr) (s t : State), s.workSound → s.filterSound → s.fenceSound → s.copiesSound → s.arbiterServes →
    s.portsSound → exec c s = .next t →
    t.filterSound ∧ t.fenceSound ∧ t.copiesSound ∧ t.arbiterServes ∧ t.portsSound

/-- No command leaves a write held without a holding cause in force: at the event that ends the hold the port enters
DECIDING (spec/05 section 5.3). No decision to retake stays open beside a long operation or a fence that is up (log
31). -/
def Obligations.NoWriteIsHeldWithoutACause : Prop :=
  ∀ (c : Instr) (s t : State), s.sound → exec c s = .next t → t.holdsSound

/-- Every command leaves the Journal Controller at work on the one thing its step names, with the one memory
operation of it outstanding, and at nothing when no operation is in progress: an operation never stops short
(spec/01 section 1.5, spec/07 section 7.1, spec/08 section 8.2). -/
def Obligations.AnOperationAlwaysHasItsWork : Prop :=
  ∀ (c : Instr) (s t : State), s.workSound → exec c s = .next t → t.workSound

/-- Every command leaves every host transaction past its decision in service: its own memory operation
outstanding, or its write with the Capture Engine, once; and a drain waits for none but those (spec/05 sections
5.1, 5.6 and 5.7). -/
def Obligations.EveryTransactionIsServed : Prop :=
  ∀ (c : Instr) (s t : State), s.workSound → s.serviceSound → exec c s = .next t → t.serviceSound

/-- No host write reaches the reserved area: no byte of a line that resolves to it changes under a host write,
completed or cut off by a reset (spec/03 section 3.3). With it every command keeps what that rests on: every
geometry the part works with is legal, and every host write past its decision resolves to the policy it holds
(spec/02 section 2.1, spec/05 sections 5.1 and 5.7). -/
def Obligations.NoHostWriteReachesTheReservedArea : Prop :=
  ∀ (c : Instr) (s t : State), s.sound → s.geometrySound → s.writesSound → exec c s = .next t →
    t.geometrySound ∧ t.writesSound
    ∧ ∀ r op a, s.arb.current = some (r, op) → op.purpose = .hostWrite →
        s.decoder.resolve (a / 64) = .reserved → t.mem.read a = s.mem.read a

/-- Every command keeps the laws of the journal: fill lies from 0 to the active slot count, each slot below it
holds a complete capture record of the current epoch with its own index, and every tracked line and every
JOURNALED write in IN_MEMORY has its line's record there (spec/02 section 2.3, spec/04 section 4.2, spec/05
section 5.6). -/
def Obligations.TheJournalKeepsItsRecords : Prop :=
  ∀ (c : Instr) (s t : State), s.sound → s.geometrySound → s.writesSound → s.journalSound →
    exec c s = .next t → t.journalSound

/-- The part right after reset has every invariant. What that part is rests on the model's choices: its input
levels and its strap sample of 16 MiB (log 3), and a blank memory (log 4). -/
def Obligations.ResetIsSound : Prop :=
  State.reset.sound ∧ State.reset.grantsMade ∧ State.reset.noneRetaking ∧ State.reset.geometrySound
    ∧ State.reset.writesSound ∧ State.reset.journalSound
end

