-- ==== Sys2Proof/Laws/State.lean ====
section
/-! SUPPORT. What each named update of State leaves in each field, true by definition. -/
namespace Sys2Proof.Machine


/-! ### setPins -/

@[simp] theorem State.setPins_pins (s : State) (x : Pins) : (s.setPins x).pins = x := rfl
@[simp] theorem State.setPins_memSize (s : State) (x : Pins) : (s.setPins x).memSize = s.memSize := rfl
@[simp] theorem State.setPins_cause (s : State) (x : Pins) : (s.setPins x).cause = s.cause := rfl
@[simp] theorem State.setPins_jc (s : State) (x : Pins) : (s.setPins x).jc = s.jc := rfl
@[simp] theorem State.setPins_filter (s : State) (x : Pins) : (s.setPins x).filter = s.filter := rfl
@[simp] theorem State.setPins_engine (s : State) (x : Pins) : (s.setPins x).engine = s.engine := rfl
@[simp] theorem State.setPins_anchors (s : State) (x : Pins) : (s.setPins x).anchors = s.anchors := rfl
@[simp] theorem State.setPins_store (s : State) (x : Pins) : (s.setPins x).store = s.store := rfl
@[simp] theorem State.setPins_decoder (s : State) (x : Pins) : (s.setPins x).decoder = s.decoder := rfl
@[simp] theorem State.setPins_fence (s : State) (x : Pins) : (s.setPins x).fence = s.fence := rfl
@[simp] theorem State.setPins_attn (s : State) (x : Pins) : (s.setPins x).attn = s.attn := rfl
@[simp] theorem State.setPins_frame (s : State) (x : Pins) : (s.setPins x).frame = s.frame := rfl
@[simp] theorem State.setPins_portA (s : State) (x : Pins) : (s.setPins x).portA = s.portA := rfl
@[simp] theorem State.setPins_portB (s : State) (x : Pins) : (s.setPins x).portB = s.portB := rfl
@[simp] theorem State.setPins_arb (s : State) (x : Pins) : (s.setPins x).arb = s.arb := rfl
@[simp] theorem State.setPins_mem (s : State) (x : Pins) : (s.setPins x).mem = s.mem := rfl
@[simp] theorem State.setPins_free (s : State) (x : Pins) : (s.setPins x).free = s.free := rfl
@[simp] theorem State.setPins_pending (s : State) (x : Pins) : (s.setPins x).pending = s.pending := rfl

/-! ### setMemSize -/

@[simp] theorem State.setMemSize_pins (s : State) (x : MemSize) : (s.setMemSize x).pins = s.pins := rfl
@[simp] theorem State.setMemSize_memSize (s : State) (x : MemSize) : (s.setMemSize x).memSize = x := rfl
@[simp] theorem State.setMemSize_cause (s : State) (x : MemSize) : (s.setMemSize x).cause = s.cause := rfl
@[simp] theorem State.setMemSize_jc (s : State) (x : MemSize) : (s.setMemSize x).jc = s.jc := rfl
@[simp] theorem State.setMemSize_filter (s : State) (x : MemSize) : (s.setMemSize x).filter = s.filter := rfl
@[simp] theorem State.setMemSize_engine (s : State) (x : MemSize) : (s.setMemSize x).engine = s.engine := rfl
@[simp] theorem State.setMemSize_anchors (s : State) (x : MemSize) : (s.setMemSize x).anchors = s.anchors := rfl
@[simp] theorem State.setMemSize_store (s : State) (x : MemSize) : (s.setMemSize x).store = s.store := rfl
@[simp] theorem State.setMemSize_decoder (s : State) (x : MemSize) : (s.setMemSize x).decoder = s.decoder := rfl
@[simp] theorem State.setMemSize_fence (s : State) (x : MemSize) : (s.setMemSize x).fence = s.fence := rfl
@[simp] theorem State.setMemSize_attn (s : State) (x : MemSize) : (s.setMemSize x).attn = s.attn := rfl
@[simp] theorem State.setMemSize_frame (s : State) (x : MemSize) : (s.setMemSize x).frame = s.frame := rfl
@[simp] theorem State.setMemSize_portA (s : State) (x : MemSize) : (s.setMemSize x).portA = s.portA := rfl
@[simp] theorem State.setMemSize_portB (s : State) (x : MemSize) : (s.setMemSize x).portB = s.portB := rfl
@[simp] theorem State.setMemSize_arb (s : State) (x : MemSize) : (s.setMemSize x).arb = s.arb := rfl
@[simp] theorem State.setMemSize_mem (s : State) (x : MemSize) : (s.setMemSize x).mem = s.mem := rfl
@[simp] theorem State.setMemSize_free (s : State) (x : MemSize) : (s.setMemSize x).free = s.free := rfl
@[simp] theorem State.setMemSize_pending (s : State) (x : MemSize) : (s.setMemSize x).pending = s.pending := rfl

/-! ### setCause -/

@[simp] theorem State.setCause_pins (s : State) (x : StartCause) : (s.setCause x).pins = s.pins := rfl
@[simp] theorem State.setCause_memSize (s : State) (x : StartCause) : (s.setCause x).memSize = s.memSize := rfl
@[simp] theorem State.setCause_cause (s : State) (x : StartCause) : (s.setCause x).cause = x := rfl
@[simp] theorem State.setCause_jc (s : State) (x : StartCause) : (s.setCause x).jc = s.jc := rfl
@[simp] theorem State.setCause_filter (s : State) (x : StartCause) : (s.setCause x).filter = s.filter := rfl
@[simp] theorem State.setCause_engine (s : State) (x : StartCause) : (s.setCause x).engine = s.engine := rfl
@[simp] theorem State.setCause_anchors (s : State) (x : StartCause) : (s.setCause x).anchors = s.anchors := rfl
@[simp] theorem State.setCause_store (s : State) (x : StartCause) : (s.setCause x).store = s.store := rfl
@[simp] theorem State.setCause_decoder (s : State) (x : StartCause) : (s.setCause x).decoder = s.decoder := rfl
@[simp] theorem State.setCause_fence (s : State) (x : StartCause) : (s.setCause x).fence = s.fence := rfl
@[simp] theorem State.setCause_attn (s : State) (x : StartCause) : (s.setCause x).attn = s.attn := rfl
@[simp] theorem State.setCause_frame (s : State) (x : StartCause) : (s.setCause x).frame = s.frame := rfl
@[simp] theorem State.setCause_portA (s : State) (x : StartCause) : (s.setCause x).portA = s.portA := rfl
@[simp] theorem State.setCause_portB (s : State) (x : StartCause) : (s.setCause x).portB = s.portB := rfl
@[simp] theorem State.setCause_arb (s : State) (x : StartCause) : (s.setCause x).arb = s.arb := rfl
@[simp] theorem State.setCause_mem (s : State) (x : StartCause) : (s.setCause x).mem = s.mem := rfl
@[simp] theorem State.setCause_free (s : State) (x : StartCause) : (s.setCause x).free = s.free := rfl
@[simp] theorem State.setCause_pending (s : State) (x : StartCause) : (s.setCause x).pending = s.pending := rfl

/-! ### setJc -/

@[simp] theorem State.setJc_pins (s : State) (x : Journal) : (s.setJc x).pins = s.pins := rfl
@[simp] theorem State.setJc_memSize (s : State) (x : Journal) : (s.setJc x).memSize = s.memSize := rfl
@[simp] theorem State.setJc_cause (s : State) (x : Journal) : (s.setJc x).cause = s.cause := rfl
@[simp] theorem State.setJc_jc (s : State) (x : Journal) : (s.setJc x).jc = x := rfl
@[simp] theorem State.setJc_filter (s : State) (x : Journal) : (s.setJc x).filter = s.filter := rfl
@[simp] theorem State.setJc_engine (s : State) (x : Journal) : (s.setJc x).engine = s.engine := rfl
@[simp] theorem State.setJc_anchors (s : State) (x : Journal) : (s.setJc x).anchors = s.anchors := rfl
@[simp] theorem State.setJc_store (s : State) (x : Journal) : (s.setJc x).store = s.store := rfl
@[simp] theorem State.setJc_decoder (s : State) (x : Journal) : (s.setJc x).decoder = s.decoder := rfl
@[simp] theorem State.setJc_fence (s : State) (x : Journal) : (s.setJc x).fence = s.fence := rfl
@[simp] theorem State.setJc_attn (s : State) (x : Journal) : (s.setJc x).attn = s.attn := rfl
@[simp] theorem State.setJc_frame (s : State) (x : Journal) : (s.setJc x).frame = s.frame := rfl
@[simp] theorem State.setJc_portA (s : State) (x : Journal) : (s.setJc x).portA = s.portA := rfl
@[simp] theorem State.setJc_portB (s : State) (x : Journal) : (s.setJc x).portB = s.portB := rfl
@[simp] theorem State.setJc_arb (s : State) (x : Journal) : (s.setJc x).arb = s.arb := rfl
@[simp] theorem State.setJc_mem (s : State) (x : Journal) : (s.setJc x).mem = s.mem := rfl
@[simp] theorem State.setJc_free (s : State) (x : Journal) : (s.setJc x).free = s.free := rfl
@[simp] theorem State.setJc_pending (s : State) (x : Journal) : (s.setJc x).pending = s.pending := rfl

/-! ### setFilter -/

@[simp] theorem State.setFilter_pins (s : State) (x : Filter) : (s.setFilter x).pins = s.pins := rfl
@[simp] theorem State.setFilter_memSize (s : State) (x : Filter) : (s.setFilter x).memSize = s.memSize := rfl
@[simp] theorem State.setFilter_cause (s : State) (x : Filter) : (s.setFilter x).cause = s.cause := rfl
@[simp] theorem State.setFilter_jc (s : State) (x : Filter) : (s.setFilter x).jc = s.jc := rfl
@[simp] theorem State.setFilter_filter (s : State) (x : Filter) : (s.setFilter x).filter = x := rfl
@[simp] theorem State.setFilter_engine (s : State) (x : Filter) : (s.setFilter x).engine = s.engine := rfl
@[simp] theorem State.setFilter_anchors (s : State) (x : Filter) : (s.setFilter x).anchors = s.anchors := rfl
@[simp] theorem State.setFilter_store (s : State) (x : Filter) : (s.setFilter x).store = s.store := rfl
@[simp] theorem State.setFilter_decoder (s : State) (x : Filter) : (s.setFilter x).decoder = s.decoder := rfl
@[simp] theorem State.setFilter_fence (s : State) (x : Filter) : (s.setFilter x).fence = s.fence := rfl
@[simp] theorem State.setFilter_attn (s : State) (x : Filter) : (s.setFilter x).attn = s.attn := rfl
@[simp] theorem State.setFilter_frame (s : State) (x : Filter) : (s.setFilter x).frame = s.frame := rfl
@[simp] theorem State.setFilter_portA (s : State) (x : Filter) : (s.setFilter x).portA = s.portA := rfl
@[simp] theorem State.setFilter_portB (s : State) (x : Filter) : (s.setFilter x).portB = s.portB := rfl
@[simp] theorem State.setFilter_arb (s : State) (x : Filter) : (s.setFilter x).arb = s.arb := rfl
@[simp] theorem State.setFilter_mem (s : State) (x : Filter) : (s.setFilter x).mem = s.mem := rfl
@[simp] theorem State.setFilter_free (s : State) (x : Filter) : (s.setFilter x).free = s.free := rfl
@[simp] theorem State.setFilter_pending (s : State) (x : Filter) : (s.setFilter x).pending = s.pending := rfl

/-! ### setEngine -/

@[simp] theorem State.setEngine_pins (s : State) (x : Engine) : (s.setEngine x).pins = s.pins := rfl
@[simp] theorem State.setEngine_memSize (s : State) (x : Engine) : (s.setEngine x).memSize = s.memSize := rfl
@[simp] theorem State.setEngine_cause (s : State) (x : Engine) : (s.setEngine x).cause = s.cause := rfl
@[simp] theorem State.setEngine_jc (s : State) (x : Engine) : (s.setEngine x).jc = s.jc := rfl
@[simp] theorem State.setEngine_filter (s : State) (x : Engine) : (s.setEngine x).filter = s.filter := rfl
@[simp] theorem State.setEngine_engine (s : State) (x : Engine) : (s.setEngine x).engine = x := rfl
@[simp] theorem State.setEngine_anchors (s : State) (x : Engine) : (s.setEngine x).anchors = s.anchors := rfl
@[simp] theorem State.setEngine_store (s : State) (x : Engine) : (s.setEngine x).store = s.store := rfl
@[simp] theorem State.setEngine_decoder (s : State) (x : Engine) : (s.setEngine x).decoder = s.decoder := rfl
@[simp] theorem State.setEngine_fence (s : State) (x : Engine) : (s.setEngine x).fence = s.fence := rfl
@[simp] theorem State.setEngine_attn (s : State) (x : Engine) : (s.setEngine x).attn = s.attn := rfl
@[simp] theorem State.setEngine_frame (s : State) (x : Engine) : (s.setEngine x).frame = s.frame := rfl
@[simp] theorem State.setEngine_portA (s : State) (x : Engine) : (s.setEngine x).portA = s.portA := rfl
@[simp] theorem State.setEngine_portB (s : State) (x : Engine) : (s.setEngine x).portB = s.portB := rfl
@[simp] theorem State.setEngine_arb (s : State) (x : Engine) : (s.setEngine x).arb = s.arb := rfl
@[simp] theorem State.setEngine_mem (s : State) (x : Engine) : (s.setEngine x).mem = s.mem := rfl
@[simp] theorem State.setEngine_free (s : State) (x : Engine) : (s.setEngine x).free = s.free := rfl
@[simp] theorem State.setEngine_pending (s : State) (x : Engine) : (s.setEngine x).pending = s.pending := rfl

/-! ### setAnchors -/

@[simp] theorem State.setAnchors_pins (s : State) (x : Anchors) : (s.setAnchors x).pins = s.pins := rfl
@[simp] theorem State.setAnchors_memSize (s : State) (x : Anchors) : (s.setAnchors x).memSize = s.memSize := rfl
@[simp] theorem State.setAnchors_cause (s : State) (x : Anchors) : (s.setAnchors x).cause = s.cause := rfl
@[simp] theorem State.setAnchors_jc (s : State) (x : Anchors) : (s.setAnchors x).jc = s.jc := rfl
@[simp] theorem State.setAnchors_filter (s : State) (x : Anchors) : (s.setAnchors x).filter = s.filter := rfl
@[simp] theorem State.setAnchors_engine (s : State) (x : Anchors) : (s.setAnchors x).engine = s.engine := rfl
@[simp] theorem State.setAnchors_anchors (s : State) (x : Anchors) : (s.setAnchors x).anchors = x := rfl
@[simp] theorem State.setAnchors_store (s : State) (x : Anchors) : (s.setAnchors x).store = s.store := rfl
@[simp] theorem State.setAnchors_decoder (s : State) (x : Anchors) : (s.setAnchors x).decoder = s.decoder := rfl
@[simp] theorem State.setAnchors_fence (s : State) (x : Anchors) : (s.setAnchors x).fence = s.fence := rfl
@[simp] theorem State.setAnchors_attn (s : State) (x : Anchors) : (s.setAnchors x).attn = s.attn := rfl
@[simp] theorem State.setAnchors_frame (s : State) (x : Anchors) : (s.setAnchors x).frame = s.frame := rfl
@[simp] theorem State.setAnchors_portA (s : State) (x : Anchors) : (s.setAnchors x).portA = s.portA := rfl
@[simp] theorem State.setAnchors_portB (s : State) (x : Anchors) : (s.setAnchors x).portB = s.portB := rfl
@[simp] theorem State.setAnchors_arb (s : State) (x : Anchors) : (s.setAnchors x).arb = s.arb := rfl
@[simp] theorem State.setAnchors_mem (s : State) (x : Anchors) : (s.setAnchors x).mem = s.mem := rfl
@[simp] theorem State.setAnchors_free (s : State) (x : Anchors) : (s.setAnchors x).free = s.free := rfl
@[simp] theorem State.setAnchors_pending (s : State) (x : Anchors) : (s.setAnchors x).pending = s.pending := rfl

/-! ### setStore -/

@[simp] theorem State.setStore_pins (s : State) (x : Store) : (s.setStore x).pins = s.pins := rfl
@[simp] theorem State.setStore_memSize (s : State) (x : Store) : (s.setStore x).memSize = s.memSize := rfl
@[simp] theorem State.setStore_cause (s : State) (x : Store) : (s.setStore x).cause = s.cause := rfl
@[simp] theorem State.setStore_jc (s : State) (x : Store) : (s.setStore x).jc = s.jc := rfl
@[simp] theorem State.setStore_filter (s : State) (x : Store) : (s.setStore x).filter = s.filter := rfl
@[simp] theorem State.setStore_engine (s : State) (x : Store) : (s.setStore x).engine = s.engine := rfl
@[simp] theorem State.setStore_anchors (s : State) (x : Store) : (s.setStore x).anchors = s.anchors := rfl
@[simp] theorem State.setStore_store (s : State) (x : Store) : (s.setStore x).store = x := rfl
@[simp] theorem State.setStore_decoder (s : State) (x : Store) : (s.setStore x).decoder = s.decoder := rfl
@[simp] theorem State.setStore_fence (s : State) (x : Store) : (s.setStore x).fence = s.fence := rfl
@[simp] theorem State.setStore_attn (s : State) (x : Store) : (s.setStore x).attn = s.attn := rfl
@[simp] theorem State.setStore_frame (s : State) (x : Store) : (s.setStore x).frame = s.frame := rfl
@[simp] theorem State.setStore_portA (s : State) (x : Store) : (s.setStore x).portA = s.portA := rfl
@[simp] theorem State.setStore_portB (s : State) (x : Store) : (s.setStore x).portB = s.portB := rfl
@[simp] theorem State.setStore_arb (s : State) (x : Store) : (s.setStore x).arb = s.arb := rfl
@[simp] theorem State.setStore_mem (s : State) (x : Store) : (s.setStore x).mem = s.mem := rfl
@[simp] theorem State.setStore_free (s : State) (x : Store) : (s.setStore x).free = s.free := rfl
@[simp] theorem State.setStore_pending (s : State) (x : Store) : (s.setStore x).pending = s.pending := rfl

/-! ### setDecoder -/

@[simp] theorem State.setDecoder_pins (s : State) (x : Decoder) : (s.setDecoder x).pins = s.pins := rfl
@[simp] theorem State.setDecoder_memSize (s : State) (x : Decoder) : (s.setDecoder x).memSize = s.memSize := rfl
@[simp] theorem State.setDecoder_cause (s : State) (x : Decoder) : (s.setDecoder x).cause = s.cause := rfl
@[simp] theorem State.setDecoder_jc (s : State) (x : Decoder) : (s.setDecoder x).jc = s.jc := rfl
@[simp] theorem State.setDecoder_filter (s : State) (x : Decoder) : (s.setDecoder x).filter = s.filter := rfl
@[simp] theorem State.setDecoder_engine (s : State) (x : Decoder) : (s.setDecoder x).engine = s.engine := rfl
@[simp] theorem State.setDecoder_anchors (s : State) (x : Decoder) : (s.setDecoder x).anchors = s.anchors := rfl
@[simp] theorem State.setDecoder_store (s : State) (x : Decoder) : (s.setDecoder x).store = s.store := rfl
@[simp] theorem State.setDecoder_decoder (s : State) (x : Decoder) : (s.setDecoder x).decoder = x := rfl
@[simp] theorem State.setDecoder_fence (s : State) (x : Decoder) : (s.setDecoder x).fence = s.fence := rfl
@[simp] theorem State.setDecoder_attn (s : State) (x : Decoder) : (s.setDecoder x).attn = s.attn := rfl
@[simp] theorem State.setDecoder_frame (s : State) (x : Decoder) : (s.setDecoder x).frame = s.frame := rfl
@[simp] theorem State.setDecoder_portA (s : State) (x : Decoder) : (s.setDecoder x).portA = s.portA := rfl
@[simp] theorem State.setDecoder_portB (s : State) (x : Decoder) : (s.setDecoder x).portB = s.portB := rfl
@[simp] theorem State.setDecoder_arb (s : State) (x : Decoder) : (s.setDecoder x).arb = s.arb := rfl
@[simp] theorem State.setDecoder_mem (s : State) (x : Decoder) : (s.setDecoder x).mem = s.mem := rfl
@[simp] theorem State.setDecoder_free (s : State) (x : Decoder) : (s.setDecoder x).free = s.free := rfl
@[simp] theorem State.setDecoder_pending (s : State) (x : Decoder) : (s.setDecoder x).pending = s.pending := rfl

/-! ### setFence -/

@[simp] theorem State.setFence_pins (s : State) (x : Fence) : (s.setFence x).pins = s.pins := rfl
@[simp] theorem State.setFence_memSize (s : State) (x : Fence) : (s.setFence x).memSize = s.memSize := rfl
@[simp] theorem State.setFence_cause (s : State) (x : Fence) : (s.setFence x).cause = s.cause := rfl
@[simp] theorem State.setFence_jc (s : State) (x : Fence) : (s.setFence x).jc = s.jc := rfl
@[simp] theorem State.setFence_filter (s : State) (x : Fence) : (s.setFence x).filter = s.filter := rfl
@[simp] theorem State.setFence_engine (s : State) (x : Fence) : (s.setFence x).engine = s.engine := rfl
@[simp] theorem State.setFence_anchors (s : State) (x : Fence) : (s.setFence x).anchors = s.anchors := rfl
@[simp] theorem State.setFence_store (s : State) (x : Fence) : (s.setFence x).store = s.store := rfl
@[simp] theorem State.setFence_decoder (s : State) (x : Fence) : (s.setFence x).decoder = s.decoder := rfl
@[simp] theorem State.setFence_fence (s : State) (x : Fence) : (s.setFence x).fence = x := rfl
@[simp] theorem State.setFence_attn (s : State) (x : Fence) : (s.setFence x).attn = s.attn := rfl
@[simp] theorem State.setFence_frame (s : State) (x : Fence) : (s.setFence x).frame = s.frame := rfl
@[simp] theorem State.setFence_portA (s : State) (x : Fence) : (s.setFence x).portA = s.portA := rfl
@[simp] theorem State.setFence_portB (s : State) (x : Fence) : (s.setFence x).portB = s.portB := rfl
@[simp] theorem State.setFence_arb (s : State) (x : Fence) : (s.setFence x).arb = s.arb := rfl
@[simp] theorem State.setFence_mem (s : State) (x : Fence) : (s.setFence x).mem = s.mem := rfl
@[simp] theorem State.setFence_free (s : State) (x : Fence) : (s.setFence x).free = s.free := rfl
@[simp] theorem State.setFence_pending (s : State) (x : Fence) : (s.setFence x).pending = s.pending := rfl

/-! ### setAttn -/

@[simp] theorem State.setAttn_pins (s : State) (x : Attention) : (s.setAttn x).pins = s.pins := rfl
@[simp] theorem State.setAttn_memSize (s : State) (x : Attention) : (s.setAttn x).memSize = s.memSize := rfl
@[simp] theorem State.setAttn_cause (s : State) (x : Attention) : (s.setAttn x).cause = s.cause := rfl
@[simp] theorem State.setAttn_jc (s : State) (x : Attention) : (s.setAttn x).jc = s.jc := rfl
@[simp] theorem State.setAttn_filter (s : State) (x : Attention) : (s.setAttn x).filter = s.filter := rfl
@[simp] theorem State.setAttn_engine (s : State) (x : Attention) : (s.setAttn x).engine = s.engine := rfl
@[simp] theorem State.setAttn_anchors (s : State) (x : Attention) : (s.setAttn x).anchors = s.anchors := rfl
@[simp] theorem State.setAttn_store (s : State) (x : Attention) : (s.setAttn x).store = s.store := rfl
@[simp] theorem State.setAttn_decoder (s : State) (x : Attention) : (s.setAttn x).decoder = s.decoder := rfl
@[simp] theorem State.setAttn_fence (s : State) (x : Attention) : (s.setAttn x).fence = s.fence := rfl
@[simp] theorem State.setAttn_attn (s : State) (x : Attention) : (s.setAttn x).attn = x := rfl
@[simp] theorem State.setAttn_frame (s : State) (x : Attention) : (s.setAttn x).frame = s.frame := rfl
@[simp] theorem State.setAttn_portA (s : State) (x : Attention) : (s.setAttn x).portA = s.portA := rfl
@[simp] theorem State.setAttn_portB (s : State) (x : Attention) : (s.setAttn x).portB = s.portB := rfl
@[simp] theorem State.setAttn_arb (s : State) (x : Attention) : (s.setAttn x).arb = s.arb := rfl
@[simp] theorem State.setAttn_mem (s : State) (x : Attention) : (s.setAttn x).mem = s.mem := rfl
@[simp] theorem State.setAttn_free (s : State) (x : Attention) : (s.setAttn x).free = s.free := rfl
@[simp] theorem State.setAttn_pending (s : State) (x : Attention) : (s.setAttn x).pending = s.pending := rfl

/-! ### setFrame -/

@[simp] theorem State.setFrame_pins (s : State) (x : Option Frame) : (s.setFrame x).pins = s.pins := rfl
@[simp] theorem State.setFrame_memSize (s : State) (x : Option Frame) : (s.setFrame x).memSize = s.memSize := rfl
@[simp] theorem State.setFrame_cause (s : State) (x : Option Frame) : (s.setFrame x).cause = s.cause := rfl
@[simp] theorem State.setFrame_jc (s : State) (x : Option Frame) : (s.setFrame x).jc = s.jc := rfl
@[simp] theorem State.setFrame_filter (s : State) (x : Option Frame) : (s.setFrame x).filter = s.filter := rfl
@[simp] theorem State.setFrame_engine (s : State) (x : Option Frame) : (s.setFrame x).engine = s.engine := rfl
@[simp] theorem State.setFrame_anchors (s : State) (x : Option Frame) : (s.setFrame x).anchors = s.anchors := rfl
@[simp] theorem State.setFrame_store (s : State) (x : Option Frame) : (s.setFrame x).store = s.store := rfl
@[simp] theorem State.setFrame_decoder (s : State) (x : Option Frame) : (s.setFrame x).decoder = s.decoder := rfl
@[simp] theorem State.setFrame_fence (s : State) (x : Option Frame) : (s.setFrame x).fence = s.fence := rfl
@[simp] theorem State.setFrame_attn (s : State) (x : Option Frame) : (s.setFrame x).attn = s.attn := rfl
@[simp] theorem State.setFrame_frame (s : State) (x : Option Frame) : (s.setFrame x).frame = x := rfl
@[simp] theorem State.setFrame_portA (s : State) (x : Option Frame) : (s.setFrame x).portA = s.portA := rfl
@[simp] theorem State.setFrame_portB (s : State) (x : Option Frame) : (s.setFrame x).portB = s.portB := rfl
@[simp] theorem State.setFrame_arb (s : State) (x : Option Frame) : (s.setFrame x).arb = s.arb := rfl
@[simp] theorem State.setFrame_mem (s : State) (x : Option Frame) : (s.setFrame x).mem = s.mem := rfl
@[simp] theorem State.setFrame_free (s : State) (x : Option Frame) : (s.setFrame x).free = s.free := rfl
@[simp] theorem State.setFrame_pending (s : State) (x : Option Frame) : (s.setFrame x).pending = s.pending := rfl

/-! ### setPortA -/

@[simp] theorem State.setPortA_pins (s : State) (x : HostPort) : (s.setPortA x).pins = s.pins := rfl
@[simp] theorem State.setPortA_memSize (s : State) (x : HostPort) : (s.setPortA x).memSize = s.memSize := rfl
@[simp] theorem State.setPortA_cause (s : State) (x : HostPort) : (s.setPortA x).cause = s.cause := rfl
@[simp] theorem State.setPortA_jc (s : State) (x : HostPort) : (s.setPortA x).jc = s.jc := rfl
@[simp] theorem State.setPortA_filter (s : State) (x : HostPort) : (s.setPortA x).filter = s.filter := rfl
@[simp] theorem State.setPortA_engine (s : State) (x : HostPort) : (s.setPortA x).engine = s.engine := rfl
@[simp] theorem State.setPortA_anchors (s : State) (x : HostPort) : (s.setPortA x).anchors = s.anchors := rfl
@[simp] theorem State.setPortA_store (s : State) (x : HostPort) : (s.setPortA x).store = s.store := rfl
@[simp] theorem State.setPortA_decoder (s : State) (x : HostPort) : (s.setPortA x).decoder = s.decoder := rfl
@[simp] theorem State.setPortA_fence (s : State) (x : HostPort) : (s.setPortA x).fence = s.fence := rfl
@[simp] theorem State.setPortA_attn (s : State) (x : HostPort) : (s.setPortA x).attn = s.attn := rfl
@[simp] theorem State.setPortA_frame (s : State) (x : HostPort) : (s.setPortA x).frame = s.frame := rfl
@[simp] theorem State.setPortA_portA (s : State) (x : HostPort) : (s.setPortA x).portA = x := rfl
@[simp] theorem State.setPortA_portB (s : State) (x : HostPort) : (s.setPortA x).portB = s.portB := rfl
@[simp] theorem State.setPortA_arb (s : State) (x : HostPort) : (s.setPortA x).arb = s.arb := rfl
@[simp] theorem State.setPortA_mem (s : State) (x : HostPort) : (s.setPortA x).mem = s.mem := rfl
@[simp] theorem State.setPortA_free (s : State) (x : HostPort) : (s.setPortA x).free = s.free := rfl
@[simp] theorem State.setPortA_pending (s : State) (x : HostPort) : (s.setPortA x).pending = s.pending := rfl

/-! ### setPortB -/

@[simp] theorem State.setPortB_pins (s : State) (x : HostPort) : (s.setPortB x).pins = s.pins := rfl
@[simp] theorem State.setPortB_memSize (s : State) (x : HostPort) : (s.setPortB x).memSize = s.memSize := rfl
@[simp] theorem State.setPortB_cause (s : State) (x : HostPort) : (s.setPortB x).cause = s.cause := rfl
@[simp] theorem State.setPortB_jc (s : State) (x : HostPort) : (s.setPortB x).jc = s.jc := rfl
@[simp] theorem State.setPortB_filter (s : State) (x : HostPort) : (s.setPortB x).filter = s.filter := rfl
@[simp] theorem State.setPortB_engine (s : State) (x : HostPort) : (s.setPortB x).engine = s.engine := rfl
@[simp] theorem State.setPortB_anchors (s : State) (x : HostPort) : (s.setPortB x).anchors = s.anchors := rfl
@[simp] theorem State.setPortB_store (s : State) (x : HostPort) : (s.setPortB x).store = s.store := rfl
@[simp] theorem State.setPortB_decoder (s : State) (x : HostPort) : (s.setPortB x).decoder = s.decoder := rfl
@[simp] theorem State.setPortB_fence (s : State) (x : HostPort) : (s.setPortB x).fence = s.fence := rfl
@[simp] theorem State.setPortB_attn (s : State) (x : HostPort) : (s.setPortB x).attn = s.attn := rfl
@[simp] theorem State.setPortB_frame (s : State) (x : HostPort) : (s.setPortB x).frame = s.frame := rfl
@[simp] theorem State.setPortB_portA (s : State) (x : HostPort) : (s.setPortB x).portA = s.portA := rfl
@[simp] theorem State.setPortB_portB (s : State) (x : HostPort) : (s.setPortB x).portB = x := rfl
@[simp] theorem State.setPortB_arb (s : State) (x : HostPort) : (s.setPortB x).arb = s.arb := rfl
@[simp] theorem State.setPortB_mem (s : State) (x : HostPort) : (s.setPortB x).mem = s.mem := rfl
@[simp] theorem State.setPortB_free (s : State) (x : HostPort) : (s.setPortB x).free = s.free := rfl
@[simp] theorem State.setPortB_pending (s : State) (x : HostPort) : (s.setPortB x).pending = s.pending := rfl

/-! ### setArb -/

@[simp] theorem State.setArb_pins (s : State) (x : Arbiter) : (s.setArb x).pins = s.pins := rfl
@[simp] theorem State.setArb_memSize (s : State) (x : Arbiter) : (s.setArb x).memSize = s.memSize := rfl
@[simp] theorem State.setArb_cause (s : State) (x : Arbiter) : (s.setArb x).cause = s.cause := rfl
@[simp] theorem State.setArb_jc (s : State) (x : Arbiter) : (s.setArb x).jc = s.jc := rfl
@[simp] theorem State.setArb_filter (s : State) (x : Arbiter) : (s.setArb x).filter = s.filter := rfl
@[simp] theorem State.setArb_engine (s : State) (x : Arbiter) : (s.setArb x).engine = s.engine := rfl
@[simp] theorem State.setArb_anchors (s : State) (x : Arbiter) : (s.setArb x).anchors = s.anchors := rfl
@[simp] theorem State.setArb_store (s : State) (x : Arbiter) : (s.setArb x).store = s.store := rfl
@[simp] theorem State.setArb_decoder (s : State) (x : Arbiter) : (s.setArb x).decoder = s.decoder := rfl
@[simp] theorem State.setArb_fence (s : State) (x : Arbiter) : (s.setArb x).fence = s.fence := rfl
@[simp] theorem State.setArb_attn (s : State) (x : Arbiter) : (s.setArb x).attn = s.attn := rfl
@[simp] theorem State.setArb_frame (s : State) (x : Arbiter) : (s.setArb x).frame = s.frame := rfl
@[simp] theorem State.setArb_portA (s : State) (x : Arbiter) : (s.setArb x).portA = s.portA := rfl
@[simp] theorem State.setArb_portB (s : State) (x : Arbiter) : (s.setArb x).portB = s.portB := rfl
@[simp] theorem State.setArb_arb (s : State) (x : Arbiter) : (s.setArb x).arb = x := rfl
@[simp] theorem State.setArb_mem (s : State) (x : Arbiter) : (s.setArb x).mem = s.mem := rfl
@[simp] theorem State.setArb_free (s : State) (x : Arbiter) : (s.setArb x).free = s.free := rfl
@[simp] theorem State.setArb_pending (s : State) (x : Arbiter) : (s.setArb x).pending = s.pending := rfl

/-! ### setMem -/

@[simp] theorem State.setMem_pins (s : State) (x : Mem) : (s.setMem x).pins = s.pins := rfl
@[simp] theorem State.setMem_memSize (s : State) (x : Mem) : (s.setMem x).memSize = s.memSize := rfl
@[simp] theorem State.setMem_cause (s : State) (x : Mem) : (s.setMem x).cause = s.cause := rfl
@[simp] theorem State.setMem_jc (s : State) (x : Mem) : (s.setMem x).jc = s.jc := rfl
@[simp] theorem State.setMem_filter (s : State) (x : Mem) : (s.setMem x).filter = s.filter := rfl
@[simp] theorem State.setMem_engine (s : State) (x : Mem) : (s.setMem x).engine = s.engine := rfl
@[simp] theorem State.setMem_anchors (s : State) (x : Mem) : (s.setMem x).anchors = s.anchors := rfl
@[simp] theorem State.setMem_store (s : State) (x : Mem) : (s.setMem x).store = s.store := rfl
@[simp] theorem State.setMem_decoder (s : State) (x : Mem) : (s.setMem x).decoder = s.decoder := rfl
@[simp] theorem State.setMem_fence (s : State) (x : Mem) : (s.setMem x).fence = s.fence := rfl
@[simp] theorem State.setMem_attn (s : State) (x : Mem) : (s.setMem x).attn = s.attn := rfl
@[simp] theorem State.setMem_frame (s : State) (x : Mem) : (s.setMem x).frame = s.frame := rfl
@[simp] theorem State.setMem_portA (s : State) (x : Mem) : (s.setMem x).portA = s.portA := rfl
@[simp] theorem State.setMem_portB (s : State) (x : Mem) : (s.setMem x).portB = s.portB := rfl
@[simp] theorem State.setMem_arb (s : State) (x : Mem) : (s.setMem x).arb = s.arb := rfl
@[simp] theorem State.setMem_mem (s : State) (x : Mem) : (s.setMem x).mem = x := rfl
@[simp] theorem State.setMem_free (s : State) (x : Mem) : (s.setMem x).free = s.free := rfl
@[simp] theorem State.setMem_pending (s : State) (x : Mem) : (s.setMem x).pending = s.pending := rfl

/-! ### setFree -/

@[simp] theorem State.setFree_pins (s : State) (x : Nat) : (s.setFree x).pins = s.pins := rfl
@[simp] theorem State.setFree_memSize (s : State) (x : Nat) : (s.setFree x).memSize = s.memSize := rfl
@[simp] theorem State.setFree_cause (s : State) (x : Nat) : (s.setFree x).cause = s.cause := rfl
@[simp] theorem State.setFree_jc (s : State) (x : Nat) : (s.setFree x).jc = s.jc := rfl
@[simp] theorem State.setFree_filter (s : State) (x : Nat) : (s.setFree x).filter = s.filter := rfl
@[simp] theorem State.setFree_engine (s : State) (x : Nat) : (s.setFree x).engine = s.engine := rfl
@[simp] theorem State.setFree_anchors (s : State) (x : Nat) : (s.setFree x).anchors = s.anchors := rfl
@[simp] theorem State.setFree_store (s : State) (x : Nat) : (s.setFree x).store = s.store := rfl
@[simp] theorem State.setFree_decoder (s : State) (x : Nat) : (s.setFree x).decoder = s.decoder := rfl
@[simp] theorem State.setFree_fence (s : State) (x : Nat) : (s.setFree x).fence = s.fence := rfl
@[simp] theorem State.setFree_attn (s : State) (x : Nat) : (s.setFree x).attn = s.attn := rfl
@[simp] theorem State.setFree_frame (s : State) (x : Nat) : (s.setFree x).frame = s.frame := rfl
@[simp] theorem State.setFree_portA (s : State) (x : Nat) : (s.setFree x).portA = s.portA := rfl
@[simp] theorem State.setFree_portB (s : State) (x : Nat) : (s.setFree x).portB = s.portB := rfl
@[simp] theorem State.setFree_arb (s : State) (x : Nat) : (s.setFree x).arb = s.arb := rfl
@[simp] theorem State.setFree_mem (s : State) (x : Nat) : (s.setFree x).mem = s.mem := rfl
@[simp] theorem State.setFree_free (s : State) (x : Nat) : (s.setFree x).free = x := rfl
@[simp] theorem State.setFree_pending (s : State) (x : Nat) : (s.setFree x).pending = s.pending := rfl

/-! ### setPending -/

@[simp] theorem State.setPending_pins (s : State) (x : List Sys2Proof.Instr) : (s.setPending x).pins = s.pins := rfl
@[simp] theorem State.setPending_memSize (s : State) (x : List Sys2Proof.Instr) : (s.setPending x).memSize = s.memSize := rfl
@[simp] theorem State.setPending_cause (s : State) (x : List Sys2Proof.Instr) : (s.setPending x).cause = s.cause := rfl
@[simp] theorem State.setPending_jc (s : State) (x : List Sys2Proof.Instr) : (s.setPending x).jc = s.jc := rfl
@[simp] theorem State.setPending_filter (s : State) (x : List Sys2Proof.Instr) : (s.setPending x).filter = s.filter := rfl
@[simp] theorem State.setPending_engine (s : State) (x : List Sys2Proof.Instr) : (s.setPending x).engine = s.engine := rfl
@[simp] theorem State.setPending_anchors (s : State) (x : List Sys2Proof.Instr) : (s.setPending x).anchors = s.anchors := rfl
@[simp] theorem State.setPending_store (s : State) (x : List Sys2Proof.Instr) : (s.setPending x).store = s.store := rfl
@[simp] theorem State.setPending_decoder (s : State) (x : List Sys2Proof.Instr) : (s.setPending x).decoder = s.decoder := rfl
@[simp] theorem State.setPending_fence (s : State) (x : List Sys2Proof.Instr) : (s.setPending x).fence = s.fence := rfl
@[simp] theorem State.setPending_attn (s : State) (x : List Sys2Proof.Instr) : (s.setPending x).attn = s.attn := rfl
@[simp] theorem State.setPending_frame (s : State) (x : List Sys2Proof.Instr) : (s.setPending x).frame = s.frame := rfl
@[simp] theorem State.setPending_portA (s : State) (x : List Sys2Proof.Instr) : (s.setPending x).portA = s.portA := rfl
@[simp] theorem State.setPending_portB (s : State) (x : List Sys2Proof.Instr) : (s.setPending x).portB = s.portB := rfl
@[simp] theorem State.setPending_arb (s : State) (x : List Sys2Proof.Instr) : (s.setPending x).arb = s.arb := rfl
@[simp] theorem State.setPending_mem (s : State) (x : List Sys2Proof.Instr) : (s.setPending x).mem = s.mem := rfl
@[simp] theorem State.setPending_free (s : State) (x : List Sys2Proof.Instr) : (s.setPending x).free = s.free := rfl
@[simp] theorem State.setPending_pending (s : State) (x : List Sys2Proof.Instr) : (s.setPending x).pending = x := rfl

end Sys2Proof.Machine
end

