-- ==== Sys2Proof/Laws/Untouched.lean ====
section
/-! SUPPORT. What each shared operation leaves alone: for each, one lemma naming every field of State it does
not touch. -/
namespace Sys2Proof.Machine

@[simp] theorem State.setPort_untouched (s : State) (p : Port) (x : HostPort) :
    (s.setPort p x).pins = s.pins ∧ (s.setPort p x).memSize = s.memSize ∧ (s.setPort p x).cause = s.cause ∧
    (s.setPort p x).jc = s.jc ∧ (s.setPort p x).filter = s.filter ∧ (s.setPort p x).engine = s.engine ∧
    (s.setPort p x).anchors = s.anchors ∧ (s.setPort p x).store = s.store ∧
    (s.setPort p x).decoder = s.decoder ∧ (s.setPort p x).fence = s.fence ∧ (s.setPort p x).attn = s.attn ∧
    (s.setPort p x).frame = s.frame ∧ (s.setPort p x).arb = s.arb ∧ (s.setPort p x).mem = s.mem ∧
    (s.setPort p x).free = s.free ∧ (s.setPort p x).pending = s.pending := by
  cases p <;> simp [State.setPort]

@[simp] theorem State.request_untouched (s : State) (r : Requester) (op : MemOp) :
    (s.request r op).pins = s.pins ∧ (s.request r op).memSize = s.memSize ∧
    (s.request r op).cause = s.cause ∧ (s.request r op).jc = s.jc ∧ (s.request r op).filter = s.filter ∧
    (s.request r op).engine = s.engine ∧ (s.request r op).anchors = s.anchors ∧
    (s.request r op).store = s.store ∧ (s.request r op).decoder = s.decoder ∧
    (s.request r op).fence = s.fence ∧ (s.request r op).attn = s.attn ∧ (s.request r op).frame = s.frame ∧
    (s.request r op).portA = s.portA ∧ (s.request r op).portB = s.portB ∧ (s.request r op).mem = s.mem ∧
    (s.request r op).free = s.free ∧ (s.request r op).pending = s.pending := by
  simp [State.request]

@[simp] theorem State.release_untouched (s : State) :
    s.release.pins = s.pins ∧ s.release.memSize = s.memSize ∧ s.release.cause = s.cause ∧
    s.release.jc = s.jc ∧ s.release.filter = s.filter ∧ s.release.engine = s.engine ∧
    s.release.anchors = s.anchors ∧ s.release.store = s.store ∧ s.release.decoder = s.decoder ∧
    s.release.fence = s.fence ∧ s.release.attn = s.attn ∧ s.release.frame = s.frame ∧
    s.release.portA = s.portA ∧ s.release.portB = s.portB ∧ s.release.mem = s.mem ∧
    s.release.free = s.free ∧ s.release.pending = s.pending := by
  simp [State.release]

@[simp] theorem State.asked_untouched (s : State) :
    s.asked.pins = s.pins ∧ s.asked.memSize = s.memSize ∧ s.asked.cause = s.cause ∧ s.asked.jc = s.jc ∧
    s.asked.filter = s.filter ∧ s.asked.engine = s.engine ∧ s.asked.anchors = s.anchors ∧
    s.asked.store = s.store ∧ s.asked.decoder = s.decoder ∧ s.asked.fence = s.fence ∧
    s.asked.attn = s.attn ∧ s.asked.frame = s.frame ∧ s.asked.portA = s.portA ∧ s.asked.portB = s.portB ∧
    s.asked.arb = s.arb ∧ s.asked.mem = s.mem ∧ s.asked.pending = s.pending := by
  simp [State.asked]

@[simp] theorem State.grantNow_untouched (s : State) (b : Arbiter) :
    (State.grantNow b s).pins = s.pins ∧ (State.grantNow b s).memSize = s.memSize ∧
    (State.grantNow b s).cause = s.cause ∧ (State.grantNow b s).jc = s.jc ∧
    (State.grantNow b s).filter = s.filter ∧ (State.grantNow b s).engine = s.engine ∧
    (State.grantNow b s).anchors = s.anchors ∧ (State.grantNow b s).store = s.store ∧
    (State.grantNow b s).decoder = s.decoder ∧ (State.grantNow b s).fence = s.fence ∧
    (State.grantNow b s).attn = s.attn ∧ (State.grantNow b s).frame = s.frame ∧
    (State.grantNow b s).portA = s.portA ∧ (State.grantNow b s).portB = s.portB ∧
    (State.grantNow b s).mem = s.mem ∧ (State.grantNow b s).pending = s.pending := by
  unfold State.grantNow; repeat' split
  all_goals simp

@[simp] theorem State.settle_untouched (s : State) (b : Arbiter) :
    (State.settle b s).pins = s.pins ∧ (State.settle b s).memSize = s.memSize ∧
    (State.settle b s).cause = s.cause ∧ (State.settle b s).jc = s.jc ∧
    (State.settle b s).filter = s.filter ∧ (State.settle b s).engine = s.engine ∧
    (State.settle b s).anchors = s.anchors ∧ (State.settle b s).store = s.store ∧
    (State.settle b s).decoder = s.decoder ∧ (State.settle b s).fence = s.fence ∧
    (State.settle b s).attn = s.attn ∧ (State.settle b s).frame = s.frame ∧
    (State.settle b s).portA = s.portA ∧ (State.settle b s).portB = s.portB ∧
    (State.settle b s).mem = s.mem ∧ (State.settle b s).pending = s.pending := by
  unfold State.settle; repeat' split
  all_goals simp

@[simp] theorem State.storeCells_untouched (s : State) (op : MemOp) :
    (s.storeCells op).pins = s.pins ∧ (s.storeCells op).memSize = s.memSize ∧
    (s.storeCells op).cause = s.cause ∧ (s.storeCells op).jc = s.jc ∧ (s.storeCells op).filter = s.filter ∧
    (s.storeCells op).engine = s.engine ∧ (s.storeCells op).anchors = s.anchors ∧
    (s.storeCells op).store = s.store ∧ (s.storeCells op).decoder = s.decoder ∧
    (s.storeCells op).fence = s.fence ∧ (s.storeCells op).attn = s.attn ∧
    (s.storeCells op).frame = s.frame ∧ (s.storeCells op).portA = s.portA ∧
    (s.storeCells op).portB = s.portB ∧ (s.storeCells op).arb = s.arb ∧ (s.storeCells op).free = s.free ∧
    (s.storeCells op).pending = s.pending := by
  simp [State.storeCells]

@[simp] theorem State.raise_untouched (s : State) (c : Cause) :
    (s.raise c).pins = s.pins ∧ (s.raise c).memSize = s.memSize ∧ (s.raise c).cause = s.cause ∧
    (s.raise c).jc = s.jc ∧ (s.raise c).filter = s.filter ∧ (s.raise c).engine = s.engine ∧
    (s.raise c).anchors = s.anchors ∧ (s.raise c).store = s.store ∧ (s.raise c).decoder = s.decoder ∧
    (s.raise c).fence = s.fence ∧ (s.raise c).frame = s.frame ∧ (s.raise c).portA = s.portA ∧
    (s.raise c).portB = s.portB ∧ (s.raise c).arb = s.arb ∧ (s.raise c).mem = s.mem ∧
    (s.raise c).free = s.free ∧ (s.raise c).pending = s.pending := by
  simp [State.raise]

@[simp] theorem State.report_untouched (s : State) (p : Port) (t : Txn) (why : Reason) :
    (s.report p t why).pins = s.pins ∧ (s.report p t why).memSize = s.memSize ∧
    (s.report p t why).cause = s.cause ∧ (s.report p t why).jc = s.jc ∧
    (s.report p t why).filter = s.filter ∧ (s.report p t why).engine = s.engine ∧
    (s.report p t why).anchors = s.anchors ∧ (s.report p t why).store = s.store ∧
    (s.report p t why).decoder = s.decoder ∧ (s.report p t why).fence = s.fence ∧
    (s.report p t why).frame = s.frame ∧ (s.report p t why).portA = s.portA ∧
    (s.report p t why).portB = s.portB ∧ (s.report p t why).arb = s.arb ∧ (s.report p t why).mem = s.mem ∧
    (s.report p t why).free = s.free ∧ (s.report p t why).pending = s.pending := by
  unfold State.report; split <;> simp

@[simp] theorem State.refuse_untouched (s : State) (p : Port) (t : Txn) (why : Reason) :
    (s.refuse p t why).pins = s.pins ∧ (s.refuse p t why).memSize = s.memSize ∧
    (s.refuse p t why).cause = s.cause ∧ (s.refuse p t why).jc = s.jc ∧
    (s.refuse p t why).filter = s.filter ∧ (s.refuse p t why).engine = s.engine ∧
    (s.refuse p t why).anchors = s.anchors ∧ (s.refuse p t why).store = s.store ∧
    (s.refuse p t why).decoder = s.decoder ∧ (s.refuse p t why).fence = s.fence ∧
    (s.refuse p t why).frame = s.frame ∧ (s.refuse p t why).arb = s.arb ∧ (s.refuse p t why).mem = s.mem ∧
    (s.refuse p t why).free = s.free ∧ (s.refuse p t why).pending = s.pending := by
  simp [State.refuse]

@[simp] theorem State.enact_untouched (s : State) (p : Port) (t : Txn) (d : Decision) :
    (s.enact p t d).pins = s.pins ∧ (s.enact p t d).memSize = s.memSize ∧ (s.enact p t d).cause = s.cause ∧
    (s.enact p t d).jc = s.jc ∧ (s.enact p t d).filter = s.filter ∧ (s.enact p t d).anchors = s.anchors ∧
    (s.enact p t d).store = s.store ∧ (s.enact p t d).decoder = s.decoder ∧
    (s.enact p t d).fence = s.fence ∧ (s.enact p t d).frame = s.frame ∧ (s.enact p t d).mem = s.mem ∧
    (s.enact p t d).free = s.free ∧ (s.enact p t d).pending = s.pending := by
  cases d <;> simp [State.enact]

@[simp] theorem State.takeDecision_untouched (s : State) (p : Port) :
    (s.takeDecision p).pins = s.pins ∧ (s.takeDecision p).memSize = s.memSize ∧
    (s.takeDecision p).cause = s.cause ∧ (s.takeDecision p).jc = s.jc ∧
    (s.takeDecision p).filter = s.filter ∧ (s.takeDecision p).anchors = s.anchors ∧
    (s.takeDecision p).store = s.store ∧ (s.takeDecision p).decoder = s.decoder ∧
    (s.takeDecision p).fence = s.fence ∧ (s.takeDecision p).frame = s.frame ∧
    (s.takeDecision p).mem = s.mem ∧ (s.takeDecision p).free = s.free ∧
    (s.takeDecision p).pending = s.pending := by
  unfold State.takeDecision; split <;> simp

@[simp] theorem State.handBack_untouched (s : State) (p : Port) :
    (s.handBack p).pins = s.pins ∧ (s.handBack p).memSize = s.memSize ∧ (s.handBack p).cause = s.cause ∧
    (s.handBack p).jc = s.jc ∧ (s.handBack p).filter = s.filter ∧ (s.handBack p).engine = s.engine ∧
    (s.handBack p).anchors = s.anchors ∧ (s.handBack p).store = s.store ∧
    (s.handBack p).decoder = s.decoder ∧ (s.handBack p).fence = s.fence ∧ (s.handBack p).attn = s.attn ∧
    (s.handBack p).frame = s.frame ∧ (s.handBack p).mem = s.mem ∧ (s.handBack p).free = s.free ∧
    (s.handBack p).pending = s.pending := by
  unfold State.handBack; split <;> simp

@[simp] theorem State.deciding_untouched (s : State) (p : Port) :
    (s.deciding p).pins = s.pins ∧ (s.deciding p).memSize = s.memSize ∧ (s.deciding p).cause = s.cause ∧
    (s.deciding p).jc = s.jc ∧ (s.deciding p).filter = s.filter ∧ (s.deciding p).anchors = s.anchors ∧
    (s.deciding p).store = s.store ∧ (s.deciding p).decoder = s.decoder ∧ (s.deciding p).fence = s.fence ∧
    (s.deciding p).frame = s.frame ∧ (s.deciding p).mem = s.mem ∧ (s.deciding p).pending = s.pending := by
  simp [State.deciding]

@[simp] theorem State.retakeOne_untouched (s : State) (p : Port) :
    (s.retakeOne p).pins = s.pins ∧ (s.retakeOne p).memSize = s.memSize ∧ (s.retakeOne p).cause = s.cause
    ∧ (s.retakeOne p).jc = s.jc ∧ (s.retakeOne p).filter = s.filter ∧ (s.retakeOne p).anchors = s.anchors
    ∧ (s.retakeOne p).store = s.store ∧ (s.retakeOne p).decoder = s.decoder ∧ (s.retakeOne p).fence =
    s.fence ∧ (s.retakeOne p).frame = s.frame ∧ (s.retakeOne p).mem = s.mem ∧ (s.retakeOne p).pending =
    s.pending := by
  unfold State.retakeOne; split <;> simp

@[simp] theorem State.retake_untouched (s : State) :
    s.retake.pins = s.pins ∧ s.retake.memSize = s.memSize ∧ s.retake.cause = s.cause ∧ s.retake.jc = s.jc
    ∧ s.retake.filter = s.filter ∧ s.retake.anchors = s.anchors ∧ s.retake.store = s.store ∧
    s.retake.decoder = s.decoder ∧ s.retake.fence = s.fence ∧ s.retake.frame = s.frame ∧ s.retake.mem =
    s.mem ∧ s.retake.pending = s.pending := by
  unfold State.retake State.atPorts; repeat' split
  all_goals simp

@[simp] theorem State.retakeOneAtFence_untouched (b : Bool) (s : State) (p : Port) :
    (State.retakeOneAtFence b s p).pins = s.pins ∧ (State.retakeOneAtFence b s p).memSize = s.memSize
    ∧ (State.retakeOneAtFence b s p).cause = s.cause ∧ (State.retakeOneAtFence b s p).jc = s.jc
    ∧ (State.retakeOneAtFence b s p).filter = s.filter ∧ (State.retakeOneAtFence b s p).anchors = s.anchors
    ∧ (State.retakeOneAtFence b s p).store = s.store ∧ (State.retakeOneAtFence b s p).decoder = s.decoder
    ∧ (State.retakeOneAtFence b s p).fence = s.fence ∧ (State.retakeOneAtFence b s p).frame = s.frame
    ∧ (State.retakeOneAtFence b s p).mem = s.mem ∧ (State.retakeOneAtFence b s p).pending = s.pending := by
  unfold State.retakeOneAtFence; repeat' split
  all_goals simp

@[simp] theorem State.retakeAtFence_untouched (s : State) (b : Bool) :
    (s.retakeAtFence b).pins = s.pins ∧ (s.retakeAtFence b).memSize = s.memSize
    ∧ (s.retakeAtFence b).cause = s.cause ∧ (s.retakeAtFence b).jc = s.jc
    ∧ (s.retakeAtFence b).filter = s.filter ∧ (s.retakeAtFence b).anchors = s.anchors
    ∧ (s.retakeAtFence b).store = s.store ∧ (s.retakeAtFence b).decoder = s.decoder
    ∧ (s.retakeAtFence b).fence = s.fence ∧ (s.retakeAtFence b).frame = s.frame
    ∧ (s.retakeAtFence b).mem = s.mem ∧ (s.retakeAtFence b).pending = s.pending := by
  unfold State.retakeAtFence State.atPorts; repeat' split
  all_goals simp

@[simp] theorem State.finishRetakeOne_untouched (s : State) (p : Port) :
    (s.finishRetakeOne p).pins = s.pins ∧ (s.finishRetakeOne p).memSize = s.memSize ∧ (s.finishRetakeOne
    p).cause = s.cause ∧ (s.finishRetakeOne p).jc = s.jc ∧ (s.finishRetakeOne p).filter = s.filter ∧
    (s.finishRetakeOne p).anchors = s.anchors ∧ (s.finishRetakeOne p).store = s.store ∧ (s.finishRetakeOne
    p).decoder = s.decoder ∧ (s.finishRetakeOne p).fence = s.fence ∧ (s.finishRetakeOne p).frame = s.frame
    ∧ (s.finishRetakeOne p).mem = s.mem ∧ (s.finishRetakeOne p).pending = s.pending := by
  unfold State.finishRetakeOne; split <;> simp

@[simp] theorem State.finishRetake_untouched (s : State) :
    s.finishRetake.pins = s.pins ∧ s.finishRetake.memSize = s.memSize ∧ s.finishRetake.cause = s.cause ∧
    s.finishRetake.jc = s.jc ∧ s.finishRetake.filter = s.filter ∧ s.finishRetake.anchors = s.anchors ∧
    s.finishRetake.store = s.store ∧ s.finishRetake.decoder = s.decoder ∧ s.finishRetake.fence = s.fence ∧
    s.finishRetake.frame = s.frame ∧ s.finishRetake.mem = s.mem ∧ s.finishRetake.pending = s.pending := by
  unfold State.finishRetake State.atPorts; repeat' split
  all_goals simp

@[simp] theorem State.setStep_untouched (s : State) (x : Step) :
    (s.setStep x).pins = s.pins ∧ (s.setStep x).memSize = s.memSize ∧ (s.setStep x).cause = s.cause ∧
    (s.setStep x).filter = s.filter ∧ (s.setStep x).engine = s.engine ∧ (s.setStep x).anchors = s.anchors ∧
    (s.setStep x).store = s.store ∧ (s.setStep x).decoder = s.decoder ∧ (s.setStep x).fence = s.fence ∧
    (s.setStep x).attn = s.attn ∧ (s.setStep x).frame = s.frame ∧ (s.setStep x).portA = s.portA ∧
    (s.setStep x).portB = s.portB ∧ (s.setStep x).arb = s.arb ∧ (s.setStep x).mem = s.mem ∧
    (s.setStep x).free = s.free ∧ (s.setStep x).pending = s.pending := by
  simp [State.setStep]

@[simp] theorem State.writeAnchor_untouched (s : State) (e : Word) (ph : Phase) (g : Geometry) (c : Setup) :
    (s.writeAnchor e ph g c).pins = s.pins ∧ (s.writeAnchor e ph g c).memSize = s.memSize ∧
    (s.writeAnchor e ph g c).cause = s.cause ∧ (s.writeAnchor e ph g c).jc = s.jc ∧
    (s.writeAnchor e ph g c).filter = s.filter ∧ (s.writeAnchor e ph g c).engine = s.engine ∧
    (s.writeAnchor e ph g c).store = s.store ∧ (s.writeAnchor e ph g c).decoder = s.decoder ∧
    (s.writeAnchor e ph g c).fence = s.fence ∧ (s.writeAnchor e ph g c).attn = s.attn ∧
    (s.writeAnchor e ph g c).frame = s.frame ∧ (s.writeAnchor e ph g c).portA = s.portA ∧
    (s.writeAnchor e ph g c).portB = s.portB ∧ (s.writeAnchor e ph g c).mem = s.mem ∧
    (s.writeAnchor e ph g c).free = s.free ∧ (s.writeAnchor e ph g c).pending = s.pending := by
  simp [State.writeAnchor]

@[simp] theorem State.startAdvance_untouched (s : State) :
    s.startAdvance.pins = s.pins ∧ s.startAdvance.memSize = s.memSize ∧ s.startAdvance.cause = s.cause ∧
    s.startAdvance.filter = s.filter ∧ s.startAdvance.engine = s.engine ∧ s.startAdvance.store = s.store ∧
    s.startAdvance.decoder = s.decoder ∧ s.startAdvance.fence = s.fence ∧ s.startAdvance.attn = s.attn ∧
    s.startAdvance.frame = s.frame ∧ s.startAdvance.portA = s.portA ∧ s.startAdvance.portB = s.portB ∧
    s.startAdvance.mem = s.mem ∧ s.startAdvance.free = s.free ∧ s.startAdvance.pending = s.pending := by
  unfold State.startAdvance; dsimp only; split <;> simp

@[simp] theorem State.startWrapAnchor_untouched (s : State) :
    s.startWrapAnchor.pins = s.pins ∧ s.startWrapAnchor.memSize = s.memSize ∧
    s.startWrapAnchor.cause = s.cause ∧ s.startWrapAnchor.filter = s.filter ∧
    s.startWrapAnchor.engine = s.engine ∧ s.startWrapAnchor.store = s.store ∧
    s.startWrapAnchor.decoder = s.decoder ∧ s.startWrapAnchor.fence = s.fence ∧
    s.startWrapAnchor.attn = s.attn ∧ s.startWrapAnchor.frame = s.frame ∧
    s.startWrapAnchor.portA = s.portA ∧ s.startWrapAnchor.portB = s.portB ∧ s.startWrapAnchor.mem = s.mem ∧
    s.startWrapAnchor.free = s.free ∧ s.startWrapAnchor.pending = s.pending := by
  simp [State.startWrapAnchor]

@[simp] theorem State.startFormatAnchor_untouched (s : State) (x : Step) :
    (s.startFormatAnchor x).pins = s.pins ∧ (s.startFormatAnchor x).memSize = s.memSize ∧
    (s.startFormatAnchor x).cause = s.cause ∧ (s.startFormatAnchor x).filter = s.filter ∧
    (s.startFormatAnchor x).engine = s.engine ∧ (s.startFormatAnchor x).store = s.store ∧
    (s.startFormatAnchor x).decoder = s.decoder ∧ (s.startFormatAnchor x).fence = s.fence ∧
    (s.startFormatAnchor x).attn = s.attn ∧ (s.startFormatAnchor x).frame = s.frame ∧
    (s.startFormatAnchor x).portA = s.portA ∧ (s.startFormatAnchor x).portB = s.portB ∧
    (s.startFormatAnchor x).mem = s.mem ∧ (s.startFormatAnchor x).free = s.free ∧
    (s.startFormatAnchor x).pending = s.pending := by
  simp [State.startFormatAnchor]

@[simp] theorem State.startApplyAnchor_untouched (s : State) :
    s.startApplyAnchor.pins = s.pins ∧ s.startApplyAnchor.memSize = s.memSize ∧
    s.startApplyAnchor.cause = s.cause ∧ s.startApplyAnchor.filter = s.filter ∧
    s.startApplyAnchor.engine = s.engine ∧ s.startApplyAnchor.store = s.store ∧
    s.startApplyAnchor.decoder = s.decoder ∧ s.startApplyAnchor.fence = s.fence ∧
    s.startApplyAnchor.attn = s.attn ∧ s.startApplyAnchor.frame = s.frame ∧
    s.startApplyAnchor.portA = s.portA ∧ s.startApplyAnchor.portB = s.portB ∧
    s.startApplyAnchor.mem = s.mem ∧ s.startApplyAnchor.free = s.free ∧
    s.startApplyAnchor.pending = s.pending := by
  simp [State.startApplyAnchor]

@[simp] theorem State.requestScrub_untouched (s : State) (k : Nat) :
    (s.requestScrub k).pins = s.pins ∧ (s.requestScrub k).memSize = s.memSize ∧
    (s.requestScrub k).cause = s.cause ∧ (s.requestScrub k).filter = s.filter ∧
    (s.requestScrub k).engine = s.engine ∧ (s.requestScrub k).anchors = s.anchors ∧
    (s.requestScrub k).store = s.store ∧ (s.requestScrub k).decoder = s.decoder ∧
    (s.requestScrub k).fence = s.fence ∧ (s.requestScrub k).attn = s.attn ∧
    (s.requestScrub k).frame = s.frame ∧ (s.requestScrub k).portA = s.portA ∧
    (s.requestScrub k).portB = s.portB ∧ (s.requestScrub k).mem = s.mem ∧
    (s.requestScrub k).free = s.free ∧ (s.requestScrub k).pending = s.pending := by
  simp [State.requestScrub]

@[simp] theorem State.startScrub_untouched (s : State) :
    s.startScrub.pins = s.pins ∧ s.startScrub.memSize = s.memSize ∧ s.startScrub.cause = s.cause ∧
    s.startScrub.engine = s.engine ∧ s.startScrub.anchors = s.anchors ∧ s.startScrub.store = s.store ∧
    s.startScrub.decoder = s.decoder ∧ s.startScrub.fence = s.fence ∧ s.startScrub.attn = s.attn ∧
    s.startScrub.frame = s.frame ∧ s.startScrub.portA = s.portA ∧ s.startScrub.portB = s.portB ∧
    s.startScrub.mem = s.mem ∧ s.startScrub.free = s.free ∧ s.startScrub.pending = s.pending := by
  simp [State.startScrub]

@[simp] theorem State.endOperation_untouched (s : State) (st : JournalState) (e : Word) (fill : Nat) (rec : LastOp) :
    (s.endOperation st e fill rec).pins = s.pins ∧ (s.endOperation st e fill rec).memSize = s.memSize ∧
    (s.endOperation st e fill rec).cause = s.cause ∧ (s.endOperation st e fill rec).filter = s.filter ∧
    (s.endOperation st e fill rec).engine = s.engine ∧ (s.endOperation st e fill rec).anchors = s.anchors ∧
    (s.endOperation st e fill rec).store = s.store ∧ (s.endOperation st e fill rec).decoder = s.decoder ∧
    (s.endOperation st e fill rec).fence = s.fence ∧ (s.endOperation st e fill rec).frame = s.frame ∧
    (s.endOperation st e fill rec).portA = s.portA ∧ (s.endOperation st e fill rec).portB = s.portB ∧
    (s.endOperation st e fill rec).arb = s.arb ∧ (s.endOperation st e fill rec).mem = s.mem ∧
    (s.endOperation st e fill rec).free = s.free ∧ (s.endOperation st e fill rec).pending = s.pending := by
  simp [State.endOperation]

@[simp] theorem State.adoptFence_untouched (s : State) (c : Setup) :
    (s.adoptFence c).pins = s.pins ∧ (s.adoptFence c).memSize = s.memSize ∧
    (s.adoptFence c).cause = s.cause ∧ (s.adoptFence c).jc = s.jc ∧ (s.adoptFence c).filter = s.filter ∧
    (s.adoptFence c).engine = s.engine ∧ (s.adoptFence c).anchors = s.anchors ∧
    (s.adoptFence c).store = s.store ∧ (s.adoptFence c).decoder = s.decoder ∧
    (s.adoptFence c).frame = s.frame ∧ (s.adoptFence c).portA = s.portA ∧
    (s.adoptFence c).portB = s.portB ∧ (s.adoptFence c).arb = s.arb ∧ (s.adoptFence c).mem = s.mem ∧
    (s.adoptFence c).free = s.free ∧ (s.adoptFence c).pending = s.pending := by
  unfold State.adoptFence; split <;> simp

@[simp] theorem State.completeCommit_untouched (s : State) (e : Word) :
    (s.completeCommit e).pins = s.pins ∧ (s.completeCommit e).memSize = s.memSize ∧
    (s.completeCommit e).cause = s.cause ∧ (s.completeCommit e).anchors = s.anchors ∧
    (s.completeCommit e).store = s.store ∧ (s.completeCommit e).decoder = s.decoder ∧
    (s.completeCommit e).fence = s.fence ∧ (s.completeCommit e).frame = s.frame ∧
    (s.completeCommit e).mem = s.mem ∧ (s.completeCommit e).pending = s.pending := by
  simp [State.completeCommit]

@[simp] theorem State.completeAbort_untouched (s : State) (e : Word) :
    (s.completeAbort e).pins = s.pins ∧ (s.completeAbort e).memSize = s.memSize ∧
    (s.completeAbort e).cause = s.cause ∧ (s.completeAbort e).engine = s.engine ∧
    (s.completeAbort e).anchors = s.anchors ∧ (s.completeAbort e).store = s.store ∧
    (s.completeAbort e).decoder = s.decoder ∧ (s.completeAbort e).fence = s.fence ∧
    (s.completeAbort e).frame = s.frame ∧ (s.completeAbort e).portA = s.portA ∧
    (s.completeAbort e).portB = s.portB ∧ (s.completeAbort e).arb = s.arb ∧
    (s.completeAbort e).mem = s.mem ∧ (s.completeAbort e).free = s.free ∧
    (s.completeAbort e).pending = s.pending := by
  simp [State.completeAbort]

@[simp] theorem State.abortDamaged_untouched (s : State) (n : Nat) (ls : List Nat) (m : Nat) :
    (s.abortDamaged n ls m).pins = s.pins ∧ (s.abortDamaged n ls m).memSize = s.memSize ∧
    (s.abortDamaged n ls m).cause = s.cause ∧ (s.abortDamaged n ls m).filter = s.filter ∧
    (s.abortDamaged n ls m).engine = s.engine ∧ (s.abortDamaged n ls m).anchors = s.anchors ∧
    (s.abortDamaged n ls m).store = s.store ∧ (s.abortDamaged n ls m).decoder = s.decoder ∧
    (s.abortDamaged n ls m).fence = s.fence ∧ (s.abortDamaged n ls m).frame = s.frame ∧
    (s.abortDamaged n ls m).portA = s.portA ∧ (s.abortDamaged n ls m).portB = s.portB ∧
    (s.abortDamaged n ls m).arb = s.arb ∧ (s.abortDamaged n ls m).mem = s.mem ∧
    (s.abortDamaged n ls m).free = s.free ∧ (s.abortDamaged n ls m).pending = s.pending := by
  simp [State.abortDamaged]

@[simp] theorem State.applyNotEmpty_untouched (s : State) :
    s.applyNotEmpty.pins = s.pins ∧ s.applyNotEmpty.memSize = s.memSize ∧ s.applyNotEmpty.cause = s.cause ∧
    s.applyNotEmpty.filter = s.filter ∧ s.applyNotEmpty.anchors = s.anchors ∧
    s.applyNotEmpty.store = s.store ∧ s.applyNotEmpty.decoder = s.decoder ∧
    s.applyNotEmpty.fence = s.fence ∧ s.applyNotEmpty.frame = s.frame ∧ s.applyNotEmpty.mem = s.mem ∧
    s.applyNotEmpty.pending = s.pending := by
  simp [State.applyNotEmpty]

@[simp] theorem State.completeApply_untouched (s : State) :
    s.completeApply.pins = s.pins ∧ s.completeApply.memSize = s.memSize ∧ s.completeApply.cause = s.cause ∧
    s.completeApply.filter = s.filter ∧ s.completeApply.anchors = s.anchors ∧
    s.completeApply.frame = s.frame ∧ s.completeApply.mem = s.mem ∧
    s.completeApply.pending = s.pending := by
  simp [State.completeApply]

@[simp] theorem State.completeFormat_untouched (s : State) :
    s.completeFormat.pins = s.pins ∧ s.completeFormat.memSize = s.memSize ∧
    s.completeFormat.cause = s.cause ∧ s.completeFormat.anchors = s.anchors ∧
    s.completeFormat.frame = s.frame ∧ s.completeFormat.mem = s.mem ∧
    s.completeFormat.pending = s.pending := by
  simp [State.completeFormat]

@[simp] theorem State.completeRecovery_untouched (s : State) (o : RecoveryOutcome) (st : JournalState) (e : Word) (fill : Nat) (r : Report) :
    (s.completeRecovery o st e fill r).pins = s.pins ∧
    (s.completeRecovery o st e fill r).memSize = s.memSize ∧
    (s.completeRecovery o st e fill r).cause = s.cause ∧
    (s.completeRecovery o st e fill r).filter = s.filter ∧
    (s.completeRecovery o st e fill r).engine = s.engine ∧
    (s.completeRecovery o st e fill r).anchors = s.anchors ∧
    (s.completeRecovery o st e fill r).decoder = s.decoder ∧
    (s.completeRecovery o st e fill r).fence = s.fence ∧
    (s.completeRecovery o st e fill r).frame = s.frame ∧
    (s.completeRecovery o st e fill r).portA = s.portA ∧
    (s.completeRecovery o st e fill r).portB = s.portB ∧ (s.completeRecovery o st e fill r).arb = s.arb ∧
    (s.completeRecovery o st e fill r).mem = s.mem ∧ (s.completeRecovery o st e fill r).free = s.free ∧
    (s.completeRecovery o st e fill r).pending = s.pending := by
  simp [State.completeRecovery]

@[simp] theorem State.completeAdvance_untouched (s : State) (e : Word) :
    (s.completeAdvance e).pins = s.pins ∧ (s.completeAdvance e).memSize = s.memSize ∧
    (s.completeAdvance e).cause = s.cause ∧ (s.completeAdvance e).anchors = s.anchors ∧
    (s.completeAdvance e).decoder = s.decoder ∧ (s.completeAdvance e).fence = s.fence ∧
    (s.completeAdvance e).frame = s.frame ∧ (s.completeAdvance e).mem = s.mem ∧
    (s.completeAdvance e).pending = s.pending := by
  unfold State.completeAdvance; split <;> (try split) <;> simp

@[simp] theorem State.endRollback_untouched (s : State) (rb : Rollback) :
    (s.endRollback rb).pins = s.pins ∧ (s.endRollback rb).memSize = s.memSize ∧
    (s.endRollback rb).cause = s.cause ∧ (s.endRollback rb).filter = s.filter ∧
    (s.endRollback rb).engine = s.engine ∧ (s.endRollback rb).decoder = s.decoder ∧
    (s.endRollback rb).fence = s.fence ∧ (s.endRollback rb).frame = s.frame ∧
    (s.endRollback rb).portA = s.portA ∧ (s.endRollback rb).portB = s.portB ∧
    (s.endRollback rb).mem = s.mem ∧ (s.endRollback rb).free = s.free ∧
    (s.endRollback rb).pending = s.pending := by
  unfold State.endRollback; repeat' split
  all_goals simp

@[simp] theorem State.rollTo_untouched (s : State) (rb : Rollback) :
    (s.rollTo rb).pins = s.pins ∧ (s.rollTo rb).memSize = s.memSize ∧ (s.rollTo rb).cause = s.cause ∧
    (s.rollTo rb).filter = s.filter ∧ (s.rollTo rb).engine = s.engine ∧ (s.rollTo rb).decoder = s.decoder ∧
    (s.rollTo rb).fence = s.fence ∧ (s.rollTo rb).frame = s.frame ∧ (s.rollTo rb).portA = s.portA ∧
    (s.rollTo rb).portB = s.portB ∧ (s.rollTo rb).mem = s.mem ∧ (s.rollTo rb).free = s.free ∧
    (s.rollTo rb).pending = s.pending := by
  unfold State.rollTo; dsimp only; split <;> simp

@[simp] theorem State.startRollback_untouched (s : State) :
    s.startRollback.pins = s.pins ∧ s.startRollback.memSize = s.memSize ∧ s.startRollback.cause = s.cause ∧
    s.startRollback.filter = s.filter ∧ s.startRollback.engine = s.engine ∧
    s.startRollback.decoder = s.decoder ∧ s.startRollback.fence = s.fence ∧
    s.startRollback.frame = s.frame ∧ s.startRollback.portA = s.portA ∧ s.startRollback.portB = s.portB ∧
    s.startRollback.mem = s.mem ∧ s.startRollback.free = s.free ∧ s.startRollback.pending = s.pending := by
  simp [State.startRollback]

@[simp] theorem State.endScan_untouched (s : State) (reason : StopReason) (cls : Option SlotClass) (k n line : Nat) :
    (s.endScan reason cls k n line).pins = s.pins ∧ (s.endScan reason cls k n line).memSize = s.memSize ∧
    (s.endScan reason cls k n line).cause = s.cause ∧ (s.endScan reason cls k n line).engine = s.engine ∧
    (s.endScan reason cls k n line).decoder = s.decoder ∧ (s.endScan reason cls k n line).fence = s.fence ∧
    (s.endScan reason cls k n line).frame = s.frame ∧ (s.endScan reason cls k n line).portA = s.portA ∧
    (s.endScan reason cls k n line).portB = s.portB ∧ (s.endScan reason cls k n line).mem = s.mem ∧
    (s.endScan reason cls k n line).free = s.free ∧
    (s.endScan reason cls k n line).pending = s.pending := by
  unfold State.endScan; dsimp only; repeat' split
  all_goals simp

@[simp] theorem State.scanTo_untouched (s : State) (k : Nat) :
    (s.scanTo k).pins = s.pins ∧ (s.scanTo k).memSize = s.memSize ∧ (s.scanTo k).cause = s.cause ∧
    (s.scanTo k).engine = s.engine ∧ (s.scanTo k).decoder = s.decoder ∧ (s.scanTo k).fence = s.fence ∧
    (s.scanTo k).frame = s.frame ∧ (s.scanTo k).portA = s.portA ∧ (s.scanTo k).portB = s.portB ∧
    (s.scanTo k).mem = s.mem ∧ (s.scanTo k).free = s.free ∧ (s.scanTo k).pending = s.pending := by
  unfold State.scanTo; dsimp only; split <;> simp

@[simp] theorem State.startScan_untouched (s : State) (x : Step) :
    (s.startScan x).pins = s.pins ∧ (s.startScan x).memSize = s.memSize ∧ (s.startScan x).cause = s.cause ∧
    (s.startScan x).engine = s.engine ∧ (s.startScan x).decoder = s.decoder ∧
    (s.startScan x).fence = s.fence ∧ (s.startScan x).frame = s.frame ∧ (s.startScan x).portA = s.portA ∧
    (s.startScan x).portB = s.portB ∧ (s.startScan x).mem = s.mem ∧ (s.startScan x).free = s.free ∧
    (s.startScan x).pending = s.pending := by
  simp [State.startScan]

@[simp] theorem State.lookAhead_untouched (s : State) (k line : Nat) :
    (s.lookAhead k line).pins = s.pins ∧ (s.lookAhead k line).memSize = s.memSize ∧
    (s.lookAhead k line).cause = s.cause ∧ (s.lookAhead k line).filter = s.filter ∧
    (s.lookAhead k line).engine = s.engine ∧ (s.lookAhead k line).anchors = s.anchors ∧
    (s.lookAhead k line).store = s.store ∧ (s.lookAhead k line).decoder = s.decoder ∧
    (s.lookAhead k line).fence = s.fence ∧ (s.lookAhead k line).attn = s.attn ∧
    (s.lookAhead k line).frame = s.frame ∧ (s.lookAhead k line).portA = s.portA ∧
    (s.lookAhead k line).portB = s.portB ∧ (s.lookAhead k line).mem = s.mem ∧
    (s.lookAhead k line).free = s.free ∧ (s.lookAhead k line).pending = s.pending := by
  simp [State.lookAhead]

@[simp] theorem State.scanSlot_untouched (s : State) (k : Nat) (bs : List Byte) (merr : Bool) :
    (s.scanSlot k bs merr).pins = s.pins ∧ (s.scanSlot k bs merr).memSize = s.memSize ∧
    (s.scanSlot k bs merr).cause = s.cause ∧ (s.scanSlot k bs merr).engine = s.engine ∧
    (s.scanSlot k bs merr).decoder = s.decoder ∧ (s.scanSlot k bs merr).fence = s.fence ∧
    (s.scanSlot k bs merr).frame = s.frame ∧ (s.scanSlot k bs merr).portA = s.portA ∧
    (s.scanSlot k bs merr).portB = s.portB ∧ (s.scanSlot k bs merr).mem = s.mem ∧
    (s.scanSlot k bs merr).free = s.free ∧ (s.scanSlot k bs merr).pending = s.pending := by
  unfold State.scanSlot; dsimp only; repeat' split
  all_goals simp

@[simp] theorem State.lookAheadSlot_untouched (s : State) (sc : Scan) (bs : List Byte) (merr : Bool) :
    (s.lookAheadSlot sc bs merr).pins = s.pins ∧ (s.lookAheadSlot sc bs merr).memSize = s.memSize ∧
    (s.lookAheadSlot sc bs merr).cause = s.cause ∧ (s.lookAheadSlot sc bs merr).engine = s.engine ∧
    (s.lookAheadSlot sc bs merr).decoder = s.decoder ∧ (s.lookAheadSlot sc bs merr).fence = s.fence ∧
    (s.lookAheadSlot sc bs merr).frame = s.frame ∧ (s.lookAheadSlot sc bs merr).portA = s.portA ∧
    (s.lookAheadSlot sc bs merr).portB = s.portB ∧ (s.lookAheadSlot sc bs merr).mem = s.mem ∧
    (s.lookAheadSlot sc bs merr).free = s.free ∧ (s.lookAheadSlot sc bs merr).pending = s.pending := by
  simp [State.lookAheadSlot]

@[simp] theorem State.drainDone_untouched (s : State) :
    s.drainDone.pins = s.pins ∧ s.drainDone.memSize = s.memSize ∧ s.drainDone.cause = s.cause ∧
    s.drainDone.decoder = s.decoder ∧ s.drainDone.fence = s.fence ∧ s.drainDone.frame = s.frame ∧
    s.drainDone.mem = s.mem ∧ s.drainDone.pending = s.pending := by
  unfold State.drainDone; repeat' split
  all_goals simp

@[simp] theorem State.startDrain_untouched (s : State) (ps : List Port) :
    (s.startDrain ps).pins = s.pins ∧ (s.startDrain ps).memSize = s.memSize ∧
    (s.startDrain ps).cause = s.cause ∧ (s.startDrain ps).decoder = s.decoder ∧
    (s.startDrain ps).fence = s.fence ∧ (s.startDrain ps).frame = s.frame ∧ (s.startDrain ps).mem = s.mem ∧
    (s.startDrain ps).pending = s.pending := by
  unfold State.startDrain; dsimp only; split <;> simp

@[simp] theorem State.portResponded_untouched (s : State) (p : Port) :
    (s.portResponded p).pins = s.pins ∧ (s.portResponded p).memSize = s.memSize ∧
    (s.portResponded p).cause = s.cause ∧ (s.portResponded p).decoder = s.decoder ∧
    (s.portResponded p).fence = s.fence ∧ (s.portResponded p).frame = s.frame ∧
    (s.portResponded p).mem = s.mem ∧ (s.portResponded p).pending = s.pending := by
  unfold State.portResponded; dsimp only; repeat' split
  all_goals simp

@[simp] theorem State.accept_untouched (s : State) (st : JournalState) (op : LongOp) :
    (s.accept st op).pins = s.pins ∧ (s.accept st op).memSize = s.memSize ∧
    (s.accept st op).cause = s.cause ∧ (s.accept st op).filter = s.filter ∧
    (s.accept st op).engine = s.engine ∧ (s.accept st op).anchors = s.anchors ∧
    (s.accept st op).store = s.store ∧ (s.accept st op).decoder = s.decoder ∧
    (s.accept st op).fence = s.fence ∧ (s.accept st op).attn = s.attn ∧ (s.accept st op).frame = s.frame ∧
    (s.accept st op).portA = s.portA ∧ (s.accept st op).portB = s.portB ∧ (s.accept st op).arb = s.arb ∧
    (s.accept st op).mem = s.mem ∧ (s.accept st op).free = s.free ∧
    (s.accept st op).pending = s.pending := by
  simp [State.accept]

@[simp] theorem State.tear_untouched (s : State) (cut : Nat) :
    (s.tear cut).pins = s.pins ∧ (s.tear cut).memSize = s.memSize ∧ (s.tear cut).cause = s.cause ∧
    (s.tear cut).jc = s.jc ∧ (s.tear cut).filter = s.filter ∧ (s.tear cut).engine = s.engine ∧
    (s.tear cut).anchors = s.anchors ∧ (s.tear cut).store = s.store ∧ (s.tear cut).decoder = s.decoder ∧
    (s.tear cut).fence = s.fence ∧ (s.tear cut).attn = s.attn ∧ (s.tear cut).frame = s.frame ∧
    (s.tear cut).portA = s.portA ∧ (s.tear cut).portB = s.portB ∧ (s.tear cut).arb = s.arb ∧
    (s.tear cut).pending = s.pending := by
  unfold State.tear; repeat' split
  all_goals simp

@[simp] theorem State.sampleStraps_untouched (s : State) (m : BitVec 3) :
    (s.sampleStraps m).pins = s.pins ∧ (s.sampleStraps m).cause = s.cause ∧ (s.sampleStraps m).jc = s.jc ∧
    (s.sampleStraps m).filter = s.filter ∧ (s.sampleStraps m).engine = s.engine ∧
    (s.sampleStraps m).anchors = s.anchors ∧ (s.sampleStraps m).store = s.store ∧
    (s.sampleStraps m).fence = s.fence ∧ (s.sampleStraps m).attn = s.attn ∧
    (s.sampleStraps m).frame = s.frame ∧ (s.sampleStraps m).portA = s.portA ∧
    (s.sampleStraps m).portB = s.portB ∧ (s.sampleStraps m).arb = s.arb ∧ (s.sampleStraps m).mem = s.mem ∧
    (s.sampleStraps m).free = s.free ∧ (s.sampleStraps m).pending = s.pending := by
  simp [State.sampleStraps]

@[simp] theorem State.loadAnchor_untouched (s : State) (a : Anchor) :
    (s.loadAnchor a).pins = s.pins ∧ (s.loadAnchor a).memSize = s.memSize ∧
    (s.loadAnchor a).cause = s.cause ∧ (s.loadAnchor a).filter = s.filter ∧
    (s.loadAnchor a).engine = s.engine ∧ (s.loadAnchor a).anchors = s.anchors ∧
    (s.loadAnchor a).attn = s.attn ∧ (s.loadAnchor a).frame = s.frame ∧ (s.loadAnchor a).portA = s.portA ∧
    (s.loadAnchor a).portB = s.portB ∧ (s.loadAnchor a).arb = s.arb ∧ (s.loadAnchor a).mem = s.mem ∧
    (s.loadAnchor a).free = s.free ∧ (s.loadAnchor a).pending = s.pending := by
  simp [State.loadAnchor]

@[simp] theorem State.selectAnchor_untouched (s : State) (a b : Option Anchor) :
    (s.selectAnchor a b).pins = s.pins ∧ (s.selectAnchor a b).memSize = s.memSize ∧
    (s.selectAnchor a b).cause = s.cause ∧ (s.selectAnchor a b).engine = s.engine ∧
    (s.selectAnchor a b).frame = s.frame ∧ (s.selectAnchor a b).portA = s.portA ∧
    (s.selectAnchor a b).portB = s.portB ∧ (s.selectAnchor a b).mem = s.mem ∧
    (s.selectAnchor a b).free = s.free ∧ (s.selectAnchor a b).pending = s.pending := by
  unfold State.selectAnchor; dsimp only; repeat' split
  all_goals simp

end Sys2Proof.Machine
end

