-- ==== Sys2Proof/Laws/Arbiter.lean ====
section
/-! SUPPORT. What the Memory Arbiter's operations do: requests, grants and the grant at the end of an event
(R174). -/
namespace Sys2Proof.Machine

open Sys2Proof

@[simp] theorem Arbiter.request_setRequest (arb : Arbiter) (r r' : Requester) (x : Option MemOp) :
    (arb.setRequest r x).request r' = if r = r' then x else arb.request r' := by
  cases r <;> cases r' <;> rfl

@[simp] theorem Arbiter.current_setRequest (arb : Arbiter) (r : Requester) (x : Option MemOp) :
    (arb.setRequest r x).current = arb.current := by
  cases r <;> rfl

@[simp] theorem Arbiter.pointer_setRequest (arb : Arbiter) (r : Requester) (x : Option MemOp) :
    (arb.setRequest r x).pointer = arb.pointer := by
  cases r <;> rfl

/-- A requester the arbiter picks has a request pending (R174). -/
theorem pick_pending {q r : Requester} {arb : Arbiter} (h : pick q arb = some r) :
    ∃ op, arb.request r = some op := by
  have := List.find?_some h
  simpa [Option.isSome_iff_exists] using this

/-- The arbiter picks none only when no request is pending (R174). -/
theorem pick_none {q : Requester} {arb : Arbiter} (h : pick q arb = none) (r : Requester) :
    arb.request r = none := by
  have h' := List.find?_eq_none.mp h r (by cases q <;> cases r <;> decide)
  simpa using h'

/-- The requester the arbiter picks comes first in the cycle among those with a request pending (R174). -/
theorem pick_first {p r : Requester} {arb : Arbiter} (h : pick p arb = some r) : p.firstIn r arb := by
  intro q hq
  unfold pick at h
  cases p <;> simp only [Requester.cycleAfter, List.find?] at h
  all_goals
    cases h1 : arb.request .portA <;> cases h2 : arb.request .portB <;> cases h3 : arb.request .capture <;>
      cases h4 : arb.request .journal <;> simp [h1, h2, h3, h4] at h <;> subst h <;> cases q <;>
        simp_all [Requester.turn]

/-- A grant takes up the pending request, and the pointer names its requester (R174). -/
theorem Arbiter.grant_eq {arb : Arbiter} {r : Requester} {op : MemOp} (h : arb.request r = some op) :
    arb.grant r = { arb.setRequest r none with pointer := r, current := some (r, op) } := by
  simp [Arbiter.grant, h]

/-- Every requester a grant may choose has a request pending (R174). -/
theorem grantChoices_pending {before now : Arbiter} {g e : Requester}
    (h : grantChoices before now = some (g, e)) :
    (∃ op, now.request g = some op) ∧ ∃ op, now.request e = some op := by
  unfold grantChoices at h
  split at h
  · cases h
  · rename_i x hx
    have hp := pick_pending hx
    repeat' split at h
    all_goals simp only [Option.some.injEq, Prod.mk.injEq] at h
    all_goals obtain ⟨rfl, rfl⟩ := h
    all_goals simp_all [Arbiter.request, Option.isSome_iff_exists]

/-- Whom a grant may choose, by what is pending at the event's end and what was before it; two host ports that come
together at an idle port, in either order (R81, R174, log 8). -/
theorem grantChoices_cases {before now : Arbiter} {g e : Requester}
    (h : grantChoices before now = some (g, e)) :
    (pick now.pointer now = some g
        ∧ (e = g ∨ pick now.pointer before = some e))
      ∨ ((before.current = none ∨ ∀ q, before.request q = none) ∧ now.a ≠ none ∧ now.b ≠ none ∧ now.capture = none
        ∧ now.journal = none ∧ g = .portA ∧ e = .portB) := by
  unfold grantChoices at h
  split at h
  · cases h
  · rename_i x hx
    split at h
    · left
      split at h
      · split at h <;> cases h
        · exact ⟨hx, .inr (by assumption)⟩
        · exact ⟨hx, .inl rfl⟩
      · cases h; exact ⟨hx, .inl rfl⟩
    · rename_i hn
      split at h <;> cases h
      · rename_i hab
        simp only [Option.isSome_iff_ne_none, Option.isNone_iff_eq_none] at hab
        right
        refine ⟨?_, hab.1, hab.2.1, hab.2.2.1, hab.2.2.2, rfl, rfl⟩
        by_cases hc : before.current = none
        · exact .inl hc
        · right
          intro q
          refine pick_none (q := now.pointer) ?_ q
          by_contra hp
          exact hn ⟨by simpa [Option.isSome_iff_ne_none] using hc, by simpa [Option.isSome_iff_ne_none] using hp⟩
      · left; exact ⟨hx, .inl rfl⟩

/-- No grant is made only when nothing is pending (R174). -/
theorem grantChoices_none {before now : Arbiter} (h : grantChoices before now = none) (r : Requester) :
    now.request r = none := by
  unfold grantChoices at h
  split at h
  · rename_i hx; exact pick_none hx r
  · repeat' split at h
    all_goals cases h

/-- What a grant does at the arbiter: nothing while an operation is in progress or nothing is pending, and one grant
otherwise (R172, R174). -/
theorem grantNow_cases (b : Arbiter) (s : State) :
    (State.grantNow b s = s ∧ (s.arb.current = none → ∀ r, s.arb.request r = none)) ∨
      ∃ r op, s.arb.current = none ∧ s.arb.request r = some op
        ∧ (State.grantNow b s).arb = { s.arb.setRequest r none with pointer := r, current := some (r, op) } := by
  unfold State.grantNow
  split
  · rename_i x hx; left; exact ⟨rfl, by simp [hx]⟩
  · rename_i hc
    split
    · rename_i hn; left; exact ⟨rfl, fun _ r => grantChoices_none hn r⟩
    · rename_i g e hg
      obtain ⟨⟨op, h⟩, ⟨op', h'⟩⟩ := grantChoices_pending hg
      right
      split
      · exact ⟨g, op, hc, h, by simp [Arbiter.grant_eq h]⟩
      · split
        · exact ⟨g, op, hc, h, by simp [Arbiter.grant_eq h]⟩
        · exact ⟨e, op', hc, h', by simp [Arbiter.grant_eq h']⟩

/-- Requests that arrive at an idle memory port: one of them is pending, and no completion found another (R174). -/
theorem arriveIdle_iff {before now : Arbiter} (h : before.arriveIdle now = true) :
    now.current = none ∧ (before.current = none ∨ ∀ r, before.request r = none) ∧ ∃ r, now.request r ≠ none := by
  simp only [Arbiter.arriveIdle, Bool.and_eq_true, Bool.or_eq_true, Option.isNone_iff_eq_none,
    Option.isSome_iff_exists] at h
  obtain ⟨⟨h1, h2⟩, r, h3⟩ := h
  obtain ⟨op, ho⟩ := pick_pending h3
  exact ⟨h1, h2.imp_right fun h r => pick_none h r, r, by simp [ho]⟩

/-- What the end of an event does: a grant; or, where the next command brings a request of its own to an idle memory
port, a grant with one question used up, or none yet (R172, R174, log 29). -/
theorem settle_eq (b : Arbiter) (s : State) :
    State.settle b s = s.grantNow b
      ∨ (b.arriveIdle s.arb = true ∧ s.asked.requestNext = true
        ∧ (State.settle b s = s.asked ∨ State.settle b s = s.asked.grantNow b)) := by
  unfold State.settle
  split
  · rename_i h
    right
    refine ⟨h.1, h.2, ?_⟩
    split
    · exact .inl rfl
    · exact .inr rfl
  · exact .inl rfl

/-- What the end of an event does at the arbiter: nothing while an operation is in progress or nothing is pending; one
grant otherwise, unless the next command brings a request to the idle port and the grant comes with it (R172, R174,
log 29). -/
theorem settle_cases (b : Arbiter) (s : State) :
    (State.settle b s = s ∧ (s.arb.current = none → ∀ r, s.arb.request r = none))
      ∨ (State.settle b s = s.asked ∧ s.arb.current = none ∧ (b.current = none ∨ ∀ r, b.request r = none)
        ∧ s.asked.requestNext = true)
      ∨ ∃ r op, s.arb.current = none ∧ s.arb.request r = some op
        ∧ (State.settle b s).arb = { s.arb.setRequest r none with pointer := r, current := some (r, op) } := by
  obtain e | ⟨h1, h2, e | e⟩ := settle_eq b s
  · rw [e]
    obtain h | h := grantNow_cases b s
    · exact .inl h
    · exact .inr (.inr h)
  · obtain ⟨hc, hb, -⟩ := arriveIdle_iff h1
    exact .inr (.inl ⟨e, hc, hb, h2⟩)
  · rw [e]
    obtain ⟨hc, -, r, hr⟩ := arriveIdle_iff h1
    obtain ⟨-, h⟩ | h := grantNow_cases b s.asked
    · exact absurd (h (by simpa using hc) r) (by simpa using hr)
    · right; right; simpa using h

/-- An operation in progress stays in progress at the end of an event (R172). -/
theorem settle_busy {b : Arbiter} {s : State} {x : Requester × MemOp} (h : s.arb.current = some x) :
    State.settle b s = s := by
  obtain ⟨h', -⟩ | ⟨-, hc, -⟩ | ⟨_, _, hc, -⟩ := settle_cases b s
  · exact h'
  all_goals simp [h] at hc

/-- A grant moves a request from pending to in progress: what is outstanding stays (R174). -/
@[simp] theorem grantNow_outstanding (b : Arbiter) (s : State) (r : Requester) :
    (State.grantNow b s).outstanding r = s.outstanding r := by
  obtain ⟨h, -⟩ | ⟨q, op, hc, hq, h⟩ := grantNow_cases b s
  · rw [h]
  · simp only [State.outstanding, Arbiter.outstanding, h, hc]
    revert hq; cases q <;> cases r <;> simp +contextual [Arbiter.request, Arbiter.setRequest]

/-- The end of an event leaves what is outstanding (R174). -/
@[simp] theorem settle_outstanding (b : Arbiter) (s : State) (r : Requester) :
    (State.settle b s).outstanding r = s.outstanding r := by
  obtain e | ⟨-, -, e | e⟩ := settle_eq b s <;> rw [e]
  · simp
  · simp [State.outstanding]
  · rw [grantNow_outstanding]; simp [State.outstanding]

/-- The end of an event that leaves nothing to grant changes nothing (R174). -/
theorem settle_nothing {b : Arbiter} {s : State}
    (h : s.arb.current = none → ∀ r, s.arb.request r = none) : State.settle b s = s := by
  obtain e | ⟨h1, -⟩ := settle_eq b s
  · rw [e]
    obtain ⟨h', -⟩ | ⟨r, op, hc, hr, -⟩ := grantNow_cases b s
    · exact h'
    · rw [h hc r] at hr; cases hr
  · obtain ⟨hc, -, r, hr⟩ := arriveIdle_iff h1
    exact absurd (h hc r) hr

/-- A request that is alone at an idle memory port is granted, whatever the order (R174). -/
theorem grantNow_alone {b : Arbiter} {s : State} {r : Requester} {op : MemOp} (hc : s.arb.current = none)
    (hr : s.arb.request r = some op) (ho : ∀ q, q ≠ r → s.arb.request q = none) :
    (State.grantNow b s) = s.setArb { s.arb.setRequest r none with pointer := r, current := some (r, op) } := by
  have only : ∀ q o, s.arb.request q = some o → q = r := by
    intro q o hq
    by_contra hne
    simp [ho q hne] at hq
  unfold State.grantNow
  split
  · rename_i x hx; simp [hc] at hx
  · split
    · rename_i hn; simp [grantChoices_none hn r] at hr
    · rename_i g e hg
      obtain ⟨⟨og, hg'⟩, ⟨oe, he'⟩⟩ := grantChoices_pending hg
      obtain rfl := only g og hg'
      obtain rfl := only e oe he'
      simp [Arbiter.grant_eq hr]

/-- An event of a sound part that requests nothing grants nothing (R174). -/
theorem settle_unchanged {s t : State} (h : s.arbiterSound) (ht : t.arb = s.arb) :
    State.settle s.arb t = t := by
  exact settle_nothing (by rw [ht]; exact h.1)

@[simp] theorem request_outstanding_self (s : State) (r : Requester) (op : MemOp) :
    (s.request r op).outstanding r = some op := by
  simp [State.outstanding, Arbiter.outstanding, State.request]

theorem request_outstanding_other (s : State) {r r' : Requester} (op : MemOp) (h : r ≠ r') :
    (s.request r op).outstanding r' = s.outstanding r' := by
  simp [State.outstanding, Arbiter.outstanding, State.request, h]

/-- A port's request leaves the rest of the arbiter as it is (R174). -/
@[simp] theorem request_port_arb (s : State) (p : Port) (op : MemOp) :
    (s.request (portRequester p) op).arb.current = s.arb.current
      ∧ (s.request (portRequester p) op).arb.journal = s.arb.journal
      ∧ (s.request (portRequester p) op).arb.capture = s.arb.capture
      ∧ (s.request (portRequester p) op).arb.pointer = s.arb.pointer := by
  cases p <;> simp [State.request, portRequester, Arbiter.setRequest]

/-- A decision at a port requests nothing for the other requesters (R174). -/
@[simp] theorem enact_arb (s : State) (p : Port) (t : Txn) (d : Decision) :
    (s.enact p t d).arb.current = s.arb.current ∧ (s.enact p t d).arb.journal = s.arb.journal
      ∧ (s.enact p t d).arb.capture = s.arb.capture ∧ (s.enact p t d).arb.pointer = s.arb.pointer := by
  cases d <;> simp [State.enact]

@[simp] theorem takeDecision_arb (s : State) (p : Port) :
    (s.takeDecision p).arb.current = s.arb.current ∧ (s.takeDecision p).arb.journal = s.arb.journal
      ∧ (s.takeDecision p).arb.capture = s.arb.capture
      ∧ (s.takeDecision p).arb.pointer = s.arb.pointer := by
  unfold State.takeDecision; split <;> simp

@[simp] theorem handBack_arb (s : State) (p : Port) :
    (s.handBack p).arb.current = s.arb.current ∧ (s.handBack p).arb.journal = s.arb.journal
      ∧ (s.handBack p).arb.capture = s.arb.capture ∧ (s.handBack p).arb.pointer = s.arb.pointer := by
  unfold State.handBack; split <;> simp

@[simp] theorem deciding_arb (s : State) (p : Port) :
    (s.deciding p).arb.current = s.arb.current ∧ (s.deciding p).arb.journal = s.arb.journal
      ∧ (s.deciding p).arb.capture = s.arb.capture ∧ (s.deciding p).arb.pointer = s.arb.pointer := by
  simp [State.deciding]

@[simp] theorem retakeOne_arb (s : State) (p : Port) :
    (s.retakeOne p).arb.current = s.arb.current ∧ (s.retakeOne p).arb.journal = s.arb.journal
      ∧ (s.retakeOne p).arb.capture = s.arb.capture ∧ (s.retakeOne p).arb.pointer = s.arb.pointer := by
  unfold State.retakeOne; split <;> simp

@[simp] theorem retakeOneAtFence_arb (b : Bool) (s : State) (p : Port) :
    (State.retakeOneAtFence b s p).arb.current = s.arb.current ∧ (State.retakeOneAtFence b s p).arb.journal = s.arb.journal
      ∧ (State.retakeOneAtFence b s p).arb.capture = s.arb.capture ∧ (State.retakeOneAtFence b s p).arb.pointer = s.arb.pointer := by
  unfold State.retakeOneAtFence; repeat' split
  all_goals simp

@[simp] theorem finishRetakeOne_arb (s : State) (p : Port) :
    (s.finishRetakeOne p).arb.current = s.arb.current ∧ (s.finishRetakeOne p).arb.journal = s.arb.journal
      ∧ (s.finishRetakeOne p).arb.capture = s.arb.capture ∧ (s.finishRetakeOne p).arb.pointer = s.arb.pointer := by
  unfold State.finishRetakeOne; split <;> simp

/-- Held writes that retake their decisions request for their ports alone (R70, R174). -/
@[simp] theorem retake_arb (s : State) :
    (s.retake).arb.current = s.arb.current ∧ (s.retake).arb.journal = s.arb.journal
      ∧ (s.retake).arb.capture = s.arb.capture ∧ (s.retake).arb.pointer = s.arb.pointer := by
  unfold State.retake State.atPorts; repeat' split
  all_goals simp

@[simp] theorem retakeAtFence_arb (s : State) (b : Bool) :
    (s.retakeAtFence b).arb.current = s.arb.current ∧ (s.retakeAtFence b).arb.journal = s.arb.journal
      ∧ (s.retakeAtFence b).arb.capture = s.arb.capture ∧ (s.retakeAtFence b).arb.pointer = s.arb.pointer := by
  unfold State.retakeAtFence State.atPorts; repeat' split
  all_goals simp

@[simp] theorem finishRetake_arb (s : State) :
    (s.finishRetake).arb.current = s.arb.current ∧ (s.finishRetake).arb.journal = s.arb.journal
      ∧ (s.finishRetake).arb.capture = s.arb.capture ∧ (s.finishRetake).arb.pointer = s.arb.pointer := by
  unfold State.finishRetake State.atPorts; repeat' split
  all_goals simp

/-- What the Journal Controller has outstanding stands in its own request and the operation in progress
(R174). -/
theorem outstanding_journal_congr {s t : State} (hc : t.arb.current = s.arb.current)
    (hj : t.arb.journal = s.arb.journal) : t.outstanding .journal = s.outstanding .journal := by
  simp [State.outstanding, Arbiter.outstanding, Arbiter.request, hc, hj]

end Sys2Proof.Machine
end

