-- ==== Sys2Proof/Laws/Dispatch.lean ====
section
/-! SUPPORT. What the dispatch of a management frame can do (R156, R158), once for every command, and what the operation
commands start with (R16, R17). -/
namespace Sys2Proof.Machine

open Sys2Proof

/-- The CRC-8 the model checks is the one the statements speak of (R158, R177). -/
theorem crcMatches_eq (code : Byte) (f : FrameTail) : crcMatches code f = goodCrc code f := by
  simp only [crcMatches, goodCrc, requestBytes]; rfl

/-- The frame a dispatch leaves is the answered one (R156, R159). -/
theorem respondedFrame_eq (code : Byte) (f : FrameTail) (r : Reply) :
    some (respondedFrame code f r) = answered code f r.result r.data r.soft := by
  simp [respondedFrame, answered, requestBytes, Reply.bytes]

/-- A frame that is taking bytes is dispatched (R156). -/
theorem dispatch_taken {code : Byte} {f : FrameTail} {l : Bool} {body : State → Reply × State} {s : State}
    (h : s.takesBytes) :
    dispatch code f l body s = .next (s.occur fun s =>
      let r := dispatchResult code f l body s
      r.2.setFrame (some (respondedFrame code f r.1))) := by
  obtain ⟨h1, k, h2, h3⟩ := h
  simp [dispatch, State.dispatched, State.take, State.occur, State.receiving, h1, h2, h3]

/-- A well-formed frame is answered by its block, which here requests nothing of the arbiter (R158). -/
theorem dispatch_answers {code : Byte} {f : FrameTail} {l : Bool} {s t : State}
    {body : State → Reply × State} {r : Reply} (h : s.takesBytes) (ha : s.arbiterSound)
    (hc : goodCrc code f = true) (hl : l = true) (hb : body s = (r, t)) (ht : t.arb = s.arb) :
    dispatch code f l body s = .next { t with frame := answered code f r.result r.data r.soft } := by
  rw [dispatch_taken h]
  simp only [State.occur, dispatchResult, crcMatches_eq, hc, hl, hb, respondedFrame_eq]
  exact congrArg _ (settle_unchanged ha (by simpa using ht))

/-- A frame whose CRC-8 fails is answered FRAME_ERROR and changes nothing (check 1 of R158). -/
theorem dispatch_frameError {code : Byte} {f : FrameTail} {l : Bool} {s : State}
    {body : State → Reply × State} (h : s.takesBytes) (ha : s.arbiterSound)
    (hc : goodCrc code f = false) :
    dispatch code f l body s = .next { s with frame := answered code f .frameError [] } := by
  rw [dispatch_taken h]
  simp only [State.occur, dispatchResult, crcMatches_eq, hc, respondedFrame_eq]
  exact congrArg _ (settle_unchanged ha (by simp))

/-- A frame of a wrong argument length is answered INVALID_ARGUMENT and changes nothing (check 3 of
R158). -/
theorem dispatch_badLength {code : Byte} {f : FrameTail} {s : State} {body : State → Reply × State}
    (h : s.takesBytes) (ha : s.arbiterSound) (hc : goodCrc code f = true) :
    dispatch code f false body s = .next { s with frame := answered code f .invalidArgument [] } := by
  rw [dispatch_taken h]
  simp only [State.occur, dispatchResult, crcMatches_eq, hc, respondedFrame_eq]
  exact congrArg _ (settle_unchanged ha (by simp))

/-- STAGE_WRITE's items have the lengths of R177; any other length names no item. -/
theorem parseStageItem_length {args : List Byte} (h : legalLength 0x20 args ≠ some args.length) :
    parseStageItem args = none := by
  unfold legalLength at h
  cases args with
  | nil => rfl
  | cons i r =>
    simp only [if_true, List.length_cons] at h
    unfold parseStageItem parseGeometry parseSettings parseWindow itemGeometry itemSettings
    split at h
    · rename_i hi; simp [hi]; intro hl; simp [hl] at h
    · rename_i hi; simp only [hi, if_false]
      split at h
      · rename_i hj; simp [hj]; intro hl; simp [hl] at h
      · rename_i hj; simp only [hj, if_false]
        split at h
        · rename_i hk
          simp only [hk, if_true]
          have : r.length ≠ 9 := by intro hl; simp [hl] at h
          simp [this]
        · rename_i hk; simp [hk]

/-- With no write held, nothing retakes its decision (R70). -/
theorem retake_noneHeld {s : State} (h : s.noneHeld) : s.retake = s := by
  simp [State.retake, State.atPorts, State.retakeOne, State.port, h.1, h.2]

theorem retakeAtFence_noneHeld {s : State} {b : Bool} (h : s.noneHeld) : s.retakeAtFence b = s := by
  simp [State.retakeAtFence, State.atPorts, State.retakeOneAtFence, State.retakeOne, State.port, h.1, h.2]

/-- With no decision to retake, none is taken at an acceptance or a fall of PFAIL# (R17, R151). -/
theorem finishRetake_noneRetaking {s : State} (h : s.noneRetaking) : s.finishRetake = s := by
  simp [State.finishRetake, State.atPorts, State.finishRetakeOne, h.1, h.2]

/-! ## The operation commands (R16, R17) -/

/-- An operation command that passes checks 2 to 4 finds no operation in progress, the fence NORMAL and one of its
journal states (R16). -/
theorem operationCheck_none {s : State} {l : List JournalState} :
    s.operationCheck l = none ↔ s.jc.op = .none ∧ s.fence.state = .normal ∧ s.jc.state ∈ l := by
  unfold State.operationCheck
  by_cases h1 : s.jc.op = .none <;> by_cases h2 : s.fence.state = .normal <;> by_cases h3 : s.jc.state ∈ l <;>
    simp [h1, h2, h3]

/-- An acceptance comes next only with no operation in progress and the fence NORMAL (R16, R17). -/
theorem acceptanceNext_idle {s : State} (h : s.acceptanceNext = true) :
    s.jc.op = .none ∧ s.fence.state = .normal := by
  have key : ∀ (l : List JournalState) (f : FrameTail) (c : Byte) (body : State → Reply × State),
      (∀ r, s.operationCheck l = some r → (body s).1 = r) → s.accepts c f body = true →
      s.jc.op = .none ∧ s.fence.state = .normal := by
    intro l f c body hb ha
    cases ho : s.operationCheck l with
    | none => obtain ⟨h1, h2, -⟩ := operationCheck_none.1 ho; exact ⟨h1, h2⟩
    | some r =>
      exfalso
      have hr : r.result ≠ .accepted := by
        unfold State.operationCheck at ho
        split at ho
        · cases ho; simp [State.busyReply]
        · split at ho
          · cases ho; simp
          · split at ho
            · cases ho; simp [State.wrongState]
            · cases ho
      unfold State.accepts dispatchResult at ha
      split at ha
      · simp [Reply.bare] at ha
      · split at ha
        · simp [Reply.bare] at ha
        · rw [hb r ho] at ha; exact hr (by simpa using ha)
  unfold State.acceptanceNext at h
  rw [Bool.and_eq_true] at h
  have h' := h.2
  split at h'
  · exact key [.active, .damaged] _ _ _ (fun r hr => by simp [State.commitCommand, hr]) h'
  · exact key [.active, .damaged] _ _ _ (fun r hr => by simp [State.abortCommand, hr]) h'
  · exact key [.unformatted, .active, .damaged] _ _ _ (fun r hr => by simp [State.formatCommand, hr]) h'
  · exact key [.active] _ _ _ (fun r hr => by simp [State.applyCommand, hr]) h'
  · cases h'

end Sys2Proof.Machine
end

