-- ==== Sys2Proof/Laws/Events.lean ====
section
/-! SUPPORT. What the completion of a memory operation, a request and the end of an event leave at the arbiter
and in the rest of the part (R172, R174), and what a refusal writes (R72, R73). -/
namespace Sys2Proof.Machine

open Sys2Proof

/-- The end of an event changes nothing but the arbiter and the free choices (R174). -/
theorem settle_frame (b : Arbiter) (t : State) :
    State.settle b t = { t with arb := (State.settle b t).arb, free := (State.settle b t).free } := by
  have h := State.settle_untouched t b
  generalize State.settle b t = u at *
  obtain ⟨⟩ := u
  obtain ⟨⟩ := t
  simp_all

/-- The end of an event leaves what is outstanding (R174). -/
theorem nowHas_settle {s t : State} {b : Arbiter} {r : Requester} {x : Option MemOp}
    (h : s.nowHas t r x) : s.nowHas (State.settle b t) r x := by
  intro q; rw [settle_outstanding]; exact h q

/-- What is outstanding stands in the arbiter alone (R174). -/
theorem nowHas_arb {s t u : State} {r : Requester} {x : Option MemOp} (h : s.nowHas t r x)
    (hu : u.arb = t.arb) : s.nowHas u r x := by
  intro q; simpa [State.outstanding, hu] using h q

/-- A request adds one operation of its requester (R174). -/
theorem nowHas_request {s t : State} {r : Requester} {op : MemOp} (h : t.arb = s.arb) :
    s.nowHas (t.request r op) r (some op) := by
  intro q
  split
  · rename_i hq; subst hq; simp
  · rename_i hq
    rw [request_outstanding_other _ _ (Ne.symm hq)]; simp [State.outstanding, h]

/-- The next request of a requester whose operation has completed (R174). -/
theorem nowHas_next {s t : State} {r : Requester} {op : MemOp} {x : Option MemOp} (h : s.nowHas t r x) :
    s.nowHas (t.request r op) r (some op) := by
  intro q
  by_cases hq : q = r
  · subst hq; simp
  · rw [request_outstanding_other _ _ (Ne.symm hq), h q, if_neg hq, if_neg hq]

/-- The operation in progress is the one its completion names (R172). -/
theorem inPort_inProgress {s : State} {r : Requester} {p : Purpose} {op : MemOp} (h : s.inPort r p op) :
    s.inProgress r p = some op := by
  obtain ⟨h1, h2, h3, -⟩ := h
  simp [State.inProgress, h1, h2, h3]

/-- A completed operation leaves its requester with nothing outstanding (R172, R174). -/
theorem inPort_release {s : State} {r : Requester} {p : Purpose} {op : MemOp} (h : s.inPort r p op) :
    s.nowHas s.release r none := by
  obtain ⟨-, h2, -, h4⟩ := h
  intro q
  simp only [State.release, State.outstanding, Arbiter.outstanding, State.setArb_arb, h2]
  have : ({ s.arb with current := none } : Arbiter).request q = s.arb.request q := by cases q <;> rfl
  rw [this]
  by_cases hq : q = r
  · subst hq; simp [h4]
  · cases s.arb.request q <;> simp [hq, Ne.symm hq]

/-- A port's record after another's is set, and its own (R60). -/
@[simp] theorem port_setPort (s : State) (p q : Port) (x : HostPort) :
    (s.setPort p x).port q = if p = q then x else s.port q := by
  cases p <;> cases q <;> rfl

/-- A port stands in the two host ports alone (R60). -/
theorem port_congr {s t : State} (ha : t.portA = s.portA) (hb : t.portB = s.portB) (p : Port) :
    t.port p = s.port p := by
  cases p <;> simp [State.port, ha, hb]

/-- All that the fence's return to NORMAL does at one port: nothing for a write that is not held, and else its
decision, at once, or from DECIDING where an acceptance or a fall comes together with it (R70, R150, log 31). -/
theorem retakeOneAtFence_cases (b : Bool) (s : State) (p : Port) :
    ((s.port p).stage ≠ .held ∧ State.retakeOneAtFence b s p = s)
      ∨ ((s.port p).stage = .held
        ∧ (State.retakeOneAtFence b s p = s.takeDecision p
          ∨ (b = true
            ∧ (State.retakeOneAtFence b s p = s.asked.takeDecision p
              ∨ State.retakeOneAtFence b s p = s.asked.deciding p)))) := by
  unfold State.retakeOneAtFence State.retakeOne
  by_cases h : (s.port p).stage = .held
  · cases b
    · simp [h]
    · cases hw : s.askWorld <;> simp [h]
  · simp [h]

/-- All a refusal writes: the port's record, the fault record or its count, and the cause of a write
(R72, R73, R163). -/
theorem refuse_eq (s : State) (p : Port) (x : Txn) (why : Reason) :
    s.refuse p x why = ({ s with
      attn := { s.attn with
        pending :=
          if x.kind = .write then s.attn.pending ||| (if why = .journalFull then 8 else 16)
          else s.attn.pending
        fault := match s.attn.fault with
          | some r => some r
          | none => some ⟨p, x.kind, x.addr, x.enables.headD 0, x.len, why, s.jc.epoch⟩
        count := match s.attn.fault with
          | some _ => min (s.attn.count + 1) 65535
          | none => 0 } } : State).setPort p
        { s.port p with
          stage := .responding
          txn := some { x with
            reason := some why
            resolution := none
            readData := if x.kind = .read then some (List.replicate x.len 0) else none } } := by
  unfold State.refuse State.report
  cases p <;> cases hk : x.kind <;> cases hf : s.attn.fault <;> by_cases hw : why = .journalFull <;>
    simp [State.setPort, State.setPortA, State.setPortB, State.port, reportCause, State.raise,
      Attention.record, faultReport, State.setAttn, Txn.refused, hk, hf, hw, Cause.bit]

/-- Outside a drain a response is no concern of the operation's (R82). -/
theorem portResponded_outside {s : State} {p : Port} (h : p ∉ s.jc.drain) : s.portResponded p = s := by
  unfold State.portResponded; rw [if_neg h]

/-- A transaction that is well formed and in range is decided from check 2 on (R63). -/
theorem judge_form {s : State} {x : Txn} (h1 : x.bothStrobes = false) (h2 : x.addr / 4 % 8 + x.len ≤ 8)
    (h3 : x.addr < s.memSize.lines * 64) :
    s.judge x =
      if s.pathMode = .closed then .refuse .pathClosed
      else if x.kind = .read then .read
      else match s.decoder.resolve (x.addr / 64) with
        | .reserved => .refuse .reservedArea
        | .covered pol w => s.judgeCovered x pol w := by
  have a1 : x.malformed = false := by simp [Txn.malformed, h1, Nat.not_lt.mpr h2]
  have a2 : ¬ s.memSize.bytes ≤ x.addr := by simpa [MemSize.bytes] using h3
  unfold State.judge
  rw [if_neg (by simp [a1]), if_neg a2]
  rfl

/-- The policy decision of a port in DECIDING (R63). -/
theorem exec_policyDecision {s : State} {p : Port} {x : Txn} (h : s.inReset = false)
    (hs : (s.port p).stage = .deciding) (hx : (s.port p).txn = some x) :
    execPolicyDecision p s = .next (State.settle s.arb (s.enact p x (s.judge x))) := by
  simp [execPolicyDecision, State.decided, State.take, hs, h, State.takeDecision, hx]

end Sys2Proof.Machine
end

