-- ==== Sys2Proof/Laws/Journal.lean ====
section
/-! SUPPORT. What starts the work of the Journal Controller and the Anchor Unit: for each shared operation, once,
everything it does (R33, R82, R91, R100, R105). -/
namespace Sys2Proof.Machine

open Sys2Proof

/-- As many bytes as asked for (R176). -/
@[simp] theorem leBytes_length (n v) : (leBytes n v).length = n := by induction n generalizing v <;> simp_all [leBytes]
/-- Eight bytes for each window entry (R176). -/
theorem windowBytes_length (ws : List Window) : ((ws.map Window.bytes).flatten).length = 8 * ws.length := by
  induction ws with
  | nil => rfl
  | cons w ws ih => simp [Window.bytes, leBytes_length] at *; omega
/-- An anchor copy is 100 bytes (R84, R176). -/
theorem Anchor.bytes_length (a : Anchor) (h : a.setup.windows.length = 8) : a.bytes.length = 100 := by
  have := windowBytes_length a.setup.windows
  simp only [Anchor.bytes, Anchor.body, List.length_append, leBytes_length, this, h, List.length_cons, List.length_nil]

/-- All an anchor write request does, after the arbiter's grant too (R91). -/
theorem writeAnchor_begins (u : State) (e ph g c) (h : c.windows.length = 8) (b : Arbiter) :
    u.beginsAnchor (State.settle b (u.writeAnchor e ph g c)) e ph g c
    ∧ State.settle b (u.writeAnchor e ph g c) = { u with anchors := (State.settle b (u.writeAnchor e ph g c)).anchors, arb := (State.settle b (u.writeAnchor e ph g c)).arb, free := (State.settle b (u.writeAnchor e ph g c)).free } := by
  have hl := Anchor.bytes_length (Anchor.mk u.anchors.nextSeq e ph g c u.memSize.lines) h
  refine ⟨⟨?_, ?_⟩, ?_⟩
  · simp only [State.settle_untouched, State.writeAnchor, State.request_untouched, State.setAnchors_anchors, State.nextAnchor, Anchors.target, Anchors.nextSeq]
    cases hn : u.anchors.newest with
    | none => simp
    | some c => cases c <;> simp [Copy.other]
  · apply nowHas_settle
    unfold State.writeAnchor
    dsimp only
    have : MemOp.writes .anchorWriteFirst (u.anchors.target.addr u.memSize) ((u.nextAnchor e ph g c).bytes.take 80) = ⟨.anchorWriteFirst, u.anchors.target.addr u.memSize, 20, ((u.nextAnchor e ph g c).bytes.take 80).map some⟩ := by
      simp [MemOp.writes, wholeCells, State.nextAnchor, hl]
    rw [this]
    have key : writeOf .anchorWriteFirst (u.memSize.lines * 64 - (if (if u.anchors.newest = some .a then Copy.b else Copy.a) = .a then 256 else 128)) 20 (List.take 80 (Anchor.mk (if u.anchors.newest = none then 1 else u.anchors.seq + 1) e ph g c u.memSize.lines).bytes) = some ⟨.anchorWriteFirst, u.anchors.target.addr u.memSize, 20, ((u.nextAnchor e ph g c).bytes.take 80).map some⟩ := by
      simp only [writeOf, State.nextAnchor, Anchors.target, Anchors.nextSeq]
      cases hn : u.anchors.newest with
      | none => rfl
      | some c => cases c <;> rfl
    rw [key]
    exact nowHas_request (by simp)
  · rw [settle_frame]; simp [State.writeAnchor, State.request, State.setAnchors, State.setArb]

/-- All the start of an epoch advance does (R4, R100). -/
theorem startAdvance_begins (u : State) (g) (hg : u.jc.geom = some g) (hw : u.store.active.windows.length = 8) (b) :
    ∃ t, State.settle b u.startAdvance = t ∧ t = { u with
      jc := { u.jc with step := some .advancing }, anchors := t.anchors, arb := t.arb, free := t.free } ∧ u.advances t g := by
  refine ⟨_, rfl, ?_⟩
  unfold State.startAdvance State.advances lastEpoch
  dsimp only
  have e : (u.setStep .advancing).jc.epoch = u.jc.epoch := rfl
  have eg : (u.setStep .advancing).activeGeom = g := by simp [State.activeGeom, State.setStep, hg]
  have es : (u.setStep .advancing).store.active = u.store.active := rfl
  rw [e, eg, es]
  by_cases hl : u.jc.epoch = 4294967295
  · simp only [if_pos hl]
    obtain ⟨h1, h2⟩ := writeAnchor_begins (u.setStep .advancing) 0 .scrubbing g u.store.active hw b
    exact ⟨h2, h1⟩
  · simp only [if_neg hl]
    obtain ⟨h1, h2⟩ := writeAnchor_begins (u.setStep .advancing) (u.jc.epoch+1) .opened g u.store.active hw b
    exact ⟨h2, h1⟩


/-- The drain's end by operation (R82). -/
theorem drainDone_commit {u : State} (h : u.jc.op = .commit) : u.drainDone = u.startAdvance := by
  unfold State.drainDone; split <;> simp_all
theorem drainDone_abort {u : State} (h : u.jc.op = .abort) : u.drainDone = u.startRollback := by
  unfold State.drainDone; split <;> simp_all
theorem drainDone_format {u : State} (h : u.jc.op = .format) : u.drainDone = u.startScrub := by
  unfold State.drainDone; split <;> simp_all
theorem drainDone_apply {u : State} (h : u.jc.op = .apply) : u.drainDone = if u.jc.fill = 0 then u.startApplyAnchor else u.applyNotEmpty := by
  unfold State.drainDone; split <;> simp_all
/-- The active geometry, when there is one (R18). -/
theorem activeGeom_of {u : State} {g} (h : u.jc.geom = some g) : u.activeGeom = g := by simp [State.activeGeom, h]

/-- A slot is 80 bytes (R19, R23). -/
theorem emptyRecord_length (k) : (emptyRecord k).length = 80 := by simp [emptyRecord, slotBytes, slotHeader, leBytes_length]
/-- A scrub write is 20 words with every byte enabled (R20, R172). -/
theorem scrubWrite_eq (a k) : MemOp.writes .scrubWrite a (emptyRecord k) = ⟨.scrubWrite, a, 20, (emptyRecord k).map some⟩ := by
  simp [MemOp.writes, emptyRecord_length, wholeCells]

/-- All the start of a rollback does (R105). -/
theorem startRollback_begins (u : State) (g) (hg : u.jc.geom = some g) (hw : u.store.active.windows.length = 8) (b) :
   (u.jc.fill ≠ 0 → State.settle b u.startRollback = { u with
      jc := { u.jc with step := some .rollingBack, rollback := some ⟨(u.jc.fill : Int) - 1, 0, [], 0⟩ }
      arb := (State.settle b u.startRollback).arb, free := (State.settle b u.startRollback).free }
    ∧ u.nowHas (State.settle b u.startRollback) .journal (readOf .rollbackRead (slotAt g (u.jc.fill - 1)) 20))
  ∧ (u.jc.fill = 0 → ∃ t, State.settle b u.startRollback = t ∧ t = { u with
      jc := { u.jc with step := some .advancing, rollback := some ⟨-1, 0, [], 0⟩ }
      anchors := t.anchors, arb := t.arb, free := t.free }
    ∧ u.advances t g) := by
  constructor
  · intro hf
    have e : u.startRollback = ({ u with
      jc := { u.jc with step := some .rollingBack, rollback := some ⟨(u.jc.fill : Int) - 1, 0, [], 0⟩ } } : State).request .journal ⟨.rollbackRead, slotAt g (u.jc.fill - 1), 20, []⟩ := by
      have n : ((u.jc.fill : Int) - 1).toNat = u.jc.fill - 1 := by omega
      unfold State.startRollback State.rollTo
      dsimp only [State.setStep, State.setJc]
      rw [if_pos (by omega), n, activeGeom_of (by exact hg)]
      rfl
    rw [e]
    exact ⟨by rw [settle_frame]; simp [State.request, State.setArb], nowHas_settle (nowHas_request rfl)⟩
  · intro hf
    obtain ⟨t, ht, h1, h2⟩ := startAdvance_begins { u with jc := { u.jc with step := some .rollingBack, rollback := some ⟨-1, 0, [], 0⟩ } } g hg hw b
    have e : u.startRollback = ({ u with jc := { u.jc with step := some .rollingBack, rollback := some ⟨-1, 0, [], 0⟩ } } : State).startAdvance := by
      unfold State.startRollback State.rollTo
      dsimp only [State.setStep, State.setJc]
      rw [if_neg (by omega)]
      unfold State.endRollback
      rw [if_pos (by simp)]
      rw [hf]; rfl
    rw [e]; exact ⟨t, ht, h1, h2⟩

/-- All the start of a scrub does (R33). -/
theorem startScrub_begins (u : State) (g) (hg : u.scrubGeom = g) (b) :
    State.settle b u.startScrub = { u with
      jc := { u.jc with step := some .scrubbing, fill := 0, scrub := some 0 }
      filter := ⟨[], false⟩, arb := (State.settle b u.startScrub).arb, free := (State.settle b u.startScrub).free }
    ∧ u.nowHas (State.settle b u.startScrub) .journal (writeOf .scrubWrite (slotAt g 0) 20 (emptyRecord 0)) := by
  have e : u.startScrub = ({ u with
      jc := { u.jc with step := some .scrubbing, fill := 0, scrub := some 0 }
      filter := ⟨[], false⟩} : State).request .journal ⟨.scrubWrite, slotAt g 0, 20, (emptyRecord 0).map some⟩ := by
    unfold State.startScrub State.requestScrub
    rw [scrubWrite_eq]
    have : ((u.setJc { u.jc with fill := 0, step := some .scrubbing }).setFilter .empty).scrubGeom = g := hg
    rw [this]; rfl
  rw [e]
  exact ⟨by rw [settle_frame]; simp [State.request, State.setArb], nowHas_settle (nowHas_request rfl)⟩

/-- All the end of a drain does (R82). -/
theorem drainDone_begins (u : State) (g) (hg : u.jc.geom = some g ∨ u.jc.op = .format) (hw : u.eightWindows) (b) :
    u.beginsWork (State.settle b u.drainDone) g := by
  obtain ⟨hw1, hw2⟩ := hw
  refine ⟨fun h => ?_, fun h hf => ?_, fun h hf => ?_, fun h => ?_, fun h hf => ?_, fun h hf hn => ?_⟩
  · have hg : u.jc.geom = some g := by simpa [h] using hg
    obtain ⟨t, ht, h1, h2⟩ := startAdvance_begins u g hg hw1 b
    rw [drainDone_commit h, ht]; exact ⟨h1, h2⟩
  · have hg : u.jc.geom = some g := by simpa [h] using hg
    rw [drainDone_abort h]; exact (startRollback_begins u g hg hw1 b).1 hf
  · have hg : u.jc.geom = some g := by simpa [h] using hg
    rw [drainDone_abort h]; obtain ⟨t, ht, h1, h2⟩ := (startRollback_begins u g hg hw1 b).2 hf
    rw [ht]; exact ⟨h1, h2⟩
  · rw [drainDone_format h]
    exact startScrub_begins u _ (by simp [State.scrubGeom, h]) b
  · have hg : u.jc.geom = some g := by simpa [h] using hg
    have e : State.drainDone u = ({ u with jc := { u.jc with step := some .applyAnchor } } : State).writeAnchor u.jc.epoch .opened g u.store.staged := by
      rw [drainDone_apply h, if_pos hf]; unfold State.startApplyAnchor; rw [activeGeom_of hg]; rfl
    rw [e]
    obtain ⟨h1, h2⟩ := writeAnchor_begins ({ u with jc := { u.jc with step := some .applyAnchor } } : State) u.jc.epoch .opened g u.store.staged hw2 b
    exact ⟨h2, h1⟩
  · have e : State.drainDone u = { u with
      jc := { u.jc.ended .active u.jc.epoch u.jc.fill with
        lastOp := some ⟨.apply, .notEmpty, u.jc.epoch, u.jc.epoch, 0, [], 0⟩ }
      attn := { u.attn with pending := u.attn.pending ||| 1 } } := by
      rw [drainDone_apply h, if_neg hf]; unfold State.applyNotEmpty
      rw [retake_noneHeld (by exact hn)]
      unfold State.endOperation State.opRecord; rw [h]; rfl
    rw [e]
    exact ⟨by rw [settle_frame], fun q => by rw [settle_outstanding]; rfl⟩

end Sys2Proof.Machine
end

