-- ==== Sys2Proof/Laws/Memory.lean ====
section
/-! SUPPORT. The memory: its canonical form, reading after writing, and the bytes and words of an operation
(R172). -/
namespace Sys2Proof.Machine

open Sys2Proof

/-- Reading an address that no entry lists (log 4). -/
theorem Mem.read_unlisted {m : Mem} {a : Nat} (h : ∀ c ∈ m, c.1 ≠ a) : m.read a = blankByte := by
  induction m with
  | nil => rfl
  | cons c m ih =>
    simp only [Mem.read]
    rw [if_neg (h c (by simp))]
    exact ih fun d hd => h d (by simp [hd])

/-- An insertion is read back, and nothing else changes, in a memory that lists the address nowhere. -/
theorem Mem.read_insert {m : Mem} {a : Nat} {b : Byte} (h : ∀ c ∈ m, c.1 ≠ a) (x : Nat) :
    (Mem.insert m a b).read x = if x = a then b else m.read x := by
  induction m with
  | nil => simp [Mem.insert, Mem.read, eq_comm]
  | cons c m ih =>
    have h1 := h c (by simp)
    have h2 := ih fun d hd => h d (by simp [hd])
    simp only [Mem.insert]
    split
    · simp only [Mem.read]
      by_cases hx : x = a
      · simp [hx]
      · simp [hx, Ne.symm hx]
    · simp only [Mem.read, h2]
      by_cases hx : c.1 = x
      · subst hx; simp [h1]
      · simp [hx]

/-- Taking an address out leaves every other byte. -/
theorem Mem.read_filter (m : Mem) (a x : Nat) (h : x ≠ a) :
    Mem.read (m.filter fun c => c.1 != a) x = m.read x := by
  induction m with
  | nil => rfl
  | cons c m ih =>
    by_cases hc : c.1 = a
    · simp only [List.filter_cons, hc, bne_self_eq_false, Bool.false_eq_true, if_false, ih]
      simp [Mem.read, hc, Ne.symm h]
    · simp only [List.filter_cons, bne_iff_ne, ne_eq, hc, not_false_eq_true, if_true, Mem.read, ih]

/-- A byte written is read back, and every other byte keeps its value. -/
theorem Mem.read_write (m : Mem) (a : Nat) (b : Byte) (x : Nat) :
    (m.write a b).read x = if x = a then b else m.read x := by
  have hn : ∀ c ∈ m.filter (fun c => c.1 != a), c.1 ≠ a := by
    intro c hc; simpa using (List.mem_filter.mp hc).2
  unfold Mem.write
  dsimp only
  by_cases hx : x = a
  · subst hx
    split
    · rename_i hb; simp [Mem.read_unlisted hn, hb]
    · simp [Mem.read_insert hn]
  · split
    · simp [Mem.read_filter m a x hx]
    · simp [Mem.read_insert hn, hx, Mem.read_filter m a x hx]

/-- An insertion lists the new cell and the old ones. -/
theorem Mem.mem_insert {m : Mem} {a : Nat} {b : Byte} {c : Host.Cell} :
    c ∈ Mem.insert m a b ↔ c = (a, b) ∨ c ∈ m := by
  induction m with
  | nil => simp [Mem.insert]
  | cons d m ih =>
    simp only [Mem.insert]
    split
    · simp
    · simp [ih]; tauto

/-- A write keeps the canonical form. -/
theorem Mem.wf_write {m : Mem} {a : Nat} {b : Byte} (h : m.wf) (ha : a < addressSpace) :
    (m.write a b).wf := by
  have hf : Mem.wf (m.filter fun c => c.1 != a) :=
    ⟨h.1.filter _, fun c hc => h.2 c (List.mem_filter.mp hc).1⟩
  have hn : ∀ c ∈ m.filter (fun c => c.1 != a), c.1 ≠ a := by
    intro c hc; simpa using (List.mem_filter.mp hc).2
  unfold Mem.write
  dsimp only
  split
  · exact hf
  · rename_i hb
    refine ⟨?_, fun c hc => ?_⟩
    · generalize m.filter (fun c => c.1 != a) = n at hf hn
      obtain ⟨hf, -⟩ := hf
      induction n with
      | nil => simp [Mem.insert]
      | cons d n ih =>
        simp only [Mem.insert]
        have hd := List.pairwise_cons.mp hf
        split
        · rename_i hlt
          refine List.pairwise_cons.mpr ⟨fun c hc => ?_, hf⟩
          rcases List.mem_cons.mp hc with rfl | hc
          · exact hlt
          · exact Nat.lt_trans hlt (hd.1 c hc)
        · rename_i hge
          refine List.pairwise_cons.mpr ⟨fun c hc => ?_, ih (fun c hc => hn c (by simp [hc])) hd.2⟩
          rcases (Mem.mem_insert (m := n)).mp hc with rfl | hc
          · have := hn d (by simp)
            show d.1 < a
            simp only [not_lt] at hge
            omega
          · exact hd.1 c hc
    · rcases Mem.mem_insert.mp hc with rfl | hc
      · exact ⟨hb, ha⟩
      · exact hf.2 c hc

/-- Every store of an operation keeps the canonical form. -/
theorem Mem.wf_writeCells {m : Mem} (h : m.wf) (a : Nat) (cs : List (Option Byte)) :
    (m.writeCells a cs).wf := by
  induction cs generalizing m a with
  | nil => exact h
  | cons c cs ih =>
    cases c with
    | none => exact ih h (a + 1)
    | some b => exact ih (Mem.wf_write h (Nat.mod_lt _ (by decide))) (a + 1)

/-- A byte that no enabled cell names keeps its value (R172). -/
theorem Mem.read_writeCells_other (m : Mem) (a : Nat) (cs : List (Option Byte)) (x : Nat)
    (h : ∀ i b, cs[i]? = some (some b) → x ≠ (a + i) % addressSpace) :
    (m.writeCells a cs).read x = m.read x := by
  induction cs generalizing m a with
  | nil => rfl
  | cons c cs ih =>
    have h' : ∀ i b, cs[i]? = some (some b) → x ≠ (a + 1 + i) % addressSpace := by
      intro i b hi
      have := h (i + 1) b (by simpa using hi)
      rwa [show a + (i + 1) = a + 1 + i by omega] at this
    cases c with
    | none => exact ih m (a + 1) h'
    | some b =>
      have h0 := h 0 b (by simp)
      simp only [Mem.writeCells]
      rw [ih _ (a + 1) h', Mem.read_write, if_neg (by simpa using h0)]

/-- An enabled byte holds its new value (R172). -/
theorem Mem.read_writeCells (m : Mem) (a : Nat) (cs : List (Option Byte)) (hl : cs.length ≤ addressSpace)
    (i : Nat) (b : Byte) (h : cs[i]? = some (some b)) :
    (m.writeCells a cs).read ((a + i) % addressSpace) = b := by
  induction cs generalizing m a i with
  | nil => simp at h
  | cons c cs ih =>
    have hl' : cs.length ≤ addressSpace := by simp at hl; omega
    cases i with
    | succ i =>
      have hi : cs[i]? = some (some b) := by simpa using h
      rw [show a + (i + 1) = a + 1 + i by omega]
      cases c with
      | none => exact ih m (a + 1) hl' i hi
      | some d => exact ih _ (a + 1) hl' i hi
    | zero =>
      simp only [List.getElem?_cons_zero, Option.some.injEq] at h
      subst h
      simp only [Mem.writeCells]
      rw [Mem.read_writeCells_other _ _ _ _ ?_, Mem.read_write, if_pos (by simp)]
      intro j d hj heq
      have hj' : j < cs.length := by
        by_contra hge
        rw [List.getElem?_eq_none (by omega)] at hj
        cases hj
      simp only [List.length_cons] at hl
      simp only [addressSpace] at heq hl
      omega

/-- A completed write stores exactly its operation's bytes (R172). -/
theorem Mem.storedBy_writeCells (m : Mem) (op : MemOp) (h : op.cells.length ≤ addressSpace) :
    m.storedBy (m.writeCells op.addr op.cells) op :=
  ⟨fun i b hi => Mem.read_writeCells m op.addr op.cells h i b hi,
    fun a ha => Mem.read_writeCells_other m op.addr op.cells a ha⟩

/-- Byte i of a read (R172). -/
theorem Mem.readBytes_get (m : Mem) (a n i : Nat) (h : i < n) :
    (m.readBytes a n)[i]? = some (m.read ((a + i) % addressSpace)) := by
  induction n generalizing a i with
  | zero => omega
  | succ n ih =>
    cases i with
    | zero => simp [Mem.readBytes]
    | succ i =>
      simp only [Mem.readBytes, List.getElem?_cons_succ]
      rw [ih _ _ (by omega), show a + 1 + i = a + (i + 1) by omega]

/-- A read returns as many bytes as it asks for (R172). -/
@[simp] theorem Mem.readBytes_length (m : Mem) (a n : Nat) : (m.readBytes a n).length = n := by
  induction n generalizing a with
  | zero => rfl
  | succ n ih => simp [Mem.readBytes, ih]

/-- Whole words come out of whole groups of four bytes (R172). -/
theorem bytesToWords_length : ∀ (n : Nat) (bs : List Byte), bs.length = 4 * n → (bytesToWords bs).length = n
  | 0, [], _ => rfl
  | n + 1, _ :: _ :: _ :: _ :: bs, h => by
    simp only [bytesToWords, List.length_cons]
    rw [bytesToWords_length n bs (by simp at h; omega)]

/-- The lanes of two words of bits joined (log 6). -/
theorem append_low {n : Nat} (x : BitVec n) (y : Byte) : (x ++ y).extractLsb' 0 8 = y := by
  apply BitVec.eq_of_getLsbD_eq; intro i hi
  simp [BitVec.getLsbD_append, hi]

theorem append_high {n k : Nat} (x : BitVec n) (y : Byte) :
    (x ++ y).extractLsb' (k + 8) 8 = x.extractLsb' k 8 := by
  apply BitVec.eq_of_getLsbD_eq; intro i hi
  have e : k + 8 + i - 8 = k + i := by omega
  have h : ¬ k + 8 + i < 8 := by omega
  simp only [BitVec.getLsbD_extractLsb', hi, decide_true, Bool.true_and, BitVec.getLsbD_append, h,
    e, if_false]
  try simp

/-- The four lanes of four bytes joined, most significant first. -/
theorem joined_lanes (b0 b1 b2 b3 : Byte) :
    (b3 ++ b2 ++ b1 ++ b0).extractLsb' 0 8 = b0 ∧ (b3 ++ b2 ++ b1 ++ b0).extractLsb' 8 8 = b1
      ∧ (b3 ++ b2 ++ b1 ++ b0).extractLsb' 16 8 = b2 ∧ (b3 ++ b2 ++ b1 ++ b0).extractLsb' 24 8 = b3 := by
  refine ⟨append_low _ _, ?_, ?_, ?_⟩
  · rw [append_high (k := 0), append_low]
  · rw [append_high (k := 8), append_high (k := 0), append_low]
  · rw [append_high (k := 16), append_high (k := 8), append_high (k := 0)]
    apply BitVec.eq_of_getLsbD_eq; intro i hi; simp [hi]

/-- Lane k of word j is byte 4j + k (log 6). -/
theorem bytesToWords_lane : ∀ (n : Nat) (bs : List Byte), bs.length = 4 * n → ∀ j k, j < n → k < 4 →
    ((bytesToWords bs).getD j 0).extractLsb' (8 * k) 8 = bs.getD (4 * j + k) 0
  | n + 1, b0 :: b1 :: b2 :: b3 :: bs, _, 0, k, _, hk => by
    have : k = 0 ∨ k = 1 ∨ k = 2 ∨ k = 3 := by omega
    obtain ⟨l0, l1, l2, l3⟩ := joined_lanes b0 b1 b2 b3
    rcases this with rfl | rfl | rfl | rfl
    · exact l0
    · exact l1
    · exact l2
    · exact l3
  | n + 1, b0 :: b1 :: b2 :: b3 :: bs, h, j + 1, k, hj, hk => by
    have := bytesToWords_lane n bs (by simp at h; omega) j k (by omega) hk
    have e : 4 * (j + 1) + k = 4 * j + k + 4 := by omega
    simpa [bytesToWords, e] using this

end Sys2Proof.Machine
end

