-- ==== Sys2Proof/Tests/Slice0.lean ====
section
/-! SUPPORT. Tests: the checks of WellFormed refuse an ill-formed term each, the spec's own numbers come out of the
model, and for every statement with hypotheses a concrete part and command meet them, clause by clause. -/
namespace Sys2Proof.Machine.Tests

open Sys2Proof Sys2Proof.Machine

/-! ## WellFormed -/

theorem test_wf_cut : (Instr.powerOnResetStart 20).wf = true ∧ (Instr.powerOnResetStart 21).wf = false := by decide

theorem test_wf_cut_pin : (Instr.resetPinLow 21).wf = false ∧ (Instr.frameClose 21).wf = false := by decide

set_option maxRecDepth 100000 in
theorem test_wf_frame : (Instr.status ⟨List.replicate 256 0, 0⟩).wf = false := by
  simp [Instr.wf, FrameTail.wf]

theorem test_wf_no_strobe : (Instr.hostPresentation .a ⟨false, false, 0, 0, [0], [0]⟩).wf = false := by decide

theorem test_wf_short_write : (Instr.hostPresentation .a ⟨false, true, 0, 1, [0, 0], [0]⟩).wf = false := by decide

theorem test_wf_short_enables : (Instr.hostPresentation .a ⟨false, true, 0, 1, [0], [0, 0]⟩).wf = false := by decide

theorem test_wf_read_data : (Instr.hostPresentation .a ⟨true, false, 0, 0, [15], [0]⟩).wf = false := by decide

theorem test_wf_read_enables : (Instr.hostPresentation .a ⟨true, false, 0, 0, [15, 15], []⟩).wf = false := by decide

/-! ## Numbers of the spec -/

set_option maxRecDepth 100000 in
/-- R176: "123456789" gives 0xCBF43926. -/
theorem test_crc32 :
    crc32 [0x31, 0x32, 0x33, 0x34, 0x35, 0x36, 0x37, 0x38, 0x39] = 0xCBF43926 := by decide

set_option maxRecDepth 100000 in
/-- R177: "123456789" gives 0xF4. -/
theorem test_crc8 : crc8 [0x31, 0x32, 0x33, 0x34, 0x35, 0x36, 0x37, 0x38, 0x39] = 0xF4 := by decide

/-- R176: a signature lies least significant byte first; R177: a frame's value most significant first. -/
theorem test_byte_orders : leBytes 4 signature = [0xE5, 0x91, 0x3C, 0x6A] ∧ beBytes 2 0x1234 = [0x12, 0x34] := by
  decide

/-- R19: 16 slots take ⌈16 × 5 / 4⌉ = 20 lines, 17 slots 22. -/
theorem test_extent : (Geometry.mk 0 16).extentLines = 20 ∧ (Geometry.mk 0 17).extentLines = 22 := by decide

/-- R85: copies A and B of a 16 MiB part. -/
theorem test_copies : Copy.a.addr .m16 = 0xFFFF00 ∧ Copy.b.addr .m16 = 0xFFFF80 := by decide

/-- R172: lane n of a word lies at its address + n (log 6). -/
theorem test_lanes : wordBytes 0x44332211 = [0x11, 0x22, 0x33, 0x44]
    ∧ bytesToWords [0x11, 0x22, 0x33, 0x44] = [0x44332211] := by decide

/-- R172: a cut after one word with lanes 0 and 2 of the next changed. -/
theorem test_torn : tornCells 1 0b0101 (List.replicate 12 (some 7))
    = [some 7, some 7, some 7, some 7, some 7, none, some 7, none, none, none, none, none] := by decide

/-- R174: after port B the Capture Engine comes first, and port A last but one. -/
theorem test_cycle : pick .portB ⟨.portB, some ⟨.hostRead, 0, 1, []⟩, none, none, some ⟨.scanRead, 0, 20, []⟩, none⟩
    = some .journal := by decide

/-- R89: the "+1" relation holds across the wrap of the sequence number. -/
theorem test_newest_wrap (x y : Anchor) (hx : x.seq = 4294967295) (hy : y.seq = 0) :
    newestOf (some x) (some y) = some .b := by
  simp [newestOf, hx, hy]

/-! ## Parts for the tests -/

/-- An arbiter with nothing pending and an idle memory port. -/
def quiet : Arbiter := ⟨.journal, none, none, none, none, none⟩

/-- An arbiter whose memory port serves one operation. -/
def serving (r : Requester) (op : MemOp) : Arbiter := ⟨r, none, none, none, none, some (r, op)⟩

def geom16 : Geometry := ⟨0, 16⟩

/-- A part in ACTIVE at epoch 1 with an empty journal of 16 slots and a READY staging image equal to its
configuration. -/
def active : State :=
  { State.reset with
    jc := { State.reset.jc with
      state := .active, op := .none, epoch := 1, geom := some geom16, step := none, working := none }
    anchors := { State.reset.anchors with newest := some .b, seq := 2, op := none }
    store := { State.reset.store with geom := some geom16, stagedGeom := geom16, staging := .ready }
    decoder := Decoder.load .m16 (some geom16) Setup.reset
    arb := quiet }

/-- A part in which a frame is taking bytes. -/
def framed (s : State) : State :=
  { s with pins := { s.pins with mcsLow := true }, frame := some ⟨.receiving, [], 0, [], false⟩ }

/-- A frame with its CRC-8 as it should be. -/
def sent (code : Byte) (args : List Byte) : FrameTail :=
  ⟨args, crc8 (code :: BitVec.ofNat 8 args.length :: args)⟩

theorem sent_good (code : Byte) (args : List Byte) : goodCrc code (sent code args) = true := by
  simp [goodCrc, sent]

theorem framed_takes {s : State} (h : s.inReset = false) : (framed s).takesBytes :=
  ⟨h, _, rfl, rfl⟩

theorem quiet_sound {s : State} (h : s.arb = quiet) : s.arbiterSound := by
  refine ⟨fun _ r => ?_, fun r op hc => ?_, fun r op hr => ?_⟩
  · rw [h]; cases r <;> rfl
  · rw [h] at hc; cases hc
  · rw [h] at hr; cases r <;> cases hr

/-- `s` with another long operation, journal state and step. -/
def working (s : State) (st : JournalState) (o : LongOp) (x : Option Step) : State :=
  { s with jc := { s.jc with state := st, op := o, step := x } }

/-- `s` with an operation at the memory port. -/
def atPort (s : State) (r : Requester) (op : MemOp) : State := { s with arb := serving r op }

theorem atPort_inPort {s : State} {r : Requester} {p : Purpose} {op : MemOp} (h : s.inReset = false)
    (hp : op.purpose = p) : (atPort s r op).inPort r p op :=
  ⟨h, rfl, hp, by cases r <;> rfl⟩

/-- A read of one word at address 0 and a write of one word there, with every enable asserted. -/
def readTxn : Txn := ⟨.read, false, 0, 1, [15], [], none, none, none, false⟩
def writeTxn : Txn := ⟨.write, false, 0, 1, [15], [0x44332211], none, none, none, false⟩

/-- That write with the mark of a hold. -/
def heldTxn : Txn := { writeTxn with wasHeld := true }

/-- `s` with a transaction at port A. -/
def hosting (s : State) (x : Stage) (t : Txn) : State := { s with portA := ⟨x, some t, none⟩ }

/-- `s` in a reset by RESET# or by the supply. -/
def inResetPin (s : State) : State := { s with pins := { s.pins with resetLow := true } }
def inResetSupply (s : State) : State := { s with pins := { s.pins with supplyLow := true } }

/-- `s` with PFAIL# low and the fence up, or latched. -/
def fenced (s : State) : State :=
  { s with pins := { s.pins with pfailLow := true }, fence := { s.fence with state := .fenced } }
def latched (s : State) : State := { s with fence := ⟨.latched, .hold, .latched⟩ }

/-! ## Witnesses -/

theorem test_meets_StepTakesTheFrontCommand :
    ({ State.reset with pending := [.pfailFall] } : State).pending = .pfailFall :: []
      ∧ State.reset.pending = [] := by decide

theorem test_meets_EveryResetLeavesTheSameValues :
    active.pins.supplyLow = false ∧ active.pins.resetLow = false
      ∧ (inResetPin active).pins.supplyLow = false
      ∧ (∃ k, ({ framed active with frame := some ⟨.responding, [], 0, [], true⟩ } : State).frame = some k
          ∧ k.softReset = true)
      ∧ (framed active).inReset = false ∧ (framed active).pins.mcsLow = true :=
  ⟨rfl, rfl, rfl, ⟨_, rfl, rfl⟩, rfl, rfl⟩

set_option maxRecDepth 100000 in
/-- A cut-off write of three words with one word done: bytes before, in and after the word in progress; the two
pins cut it off with no frame in progress, and the close of a frame with a SOFT_RESET in it. -/
theorem test_meets_ACutOffWriteIsTorn :
    let op : MemOp := ⟨.recordWrite, 0, 3, List.replicate 12 (some 7)⟩
    let s := atPort active .capture op
    let k := atPort { framed active with frame := some ⟨.responding, [], 0, [], true⟩ } .capture op
    s.inReset = false ∧ s.frame = none ∧ s.arb.current = some (.capture, op) ∧ op.purpose.isWrite = true
      ∧ op.cells.length ≤ 80 ∧ (∃ t, exec (.powerOnResetStart 1) s = .next t)
      ∧ (∃ t, exec (.resetPinLow 1) s = .next t) ∧ k.inReset = false ∧ k.pins.mcsLow = true
      ∧ (∃ x, k.frame = some x ∧ x.softReset = true) ∧ (∃ t, exec (.frameClose 1) k = .next t)
      ∧ op.cells[3]? = some (some 7) ∧ op.cells[4]? = some (some 7) ∧ op.cells[8]? = some (some 7) :=
  ⟨rfl, rfl, rfl, rfl, by decide, ⟨_, rfl⟩, ⟨_, rfl⟩, rfl, rfl, ⟨_, rfl, rfl⟩, ⟨_, rfl⟩, rfl, rfl, rfl⟩

theorem test_meets_AResetEndsInRecovery :
    (inResetSupply active).pins.supplyLow = true ∧ (inResetSupply active).pins.resetLow = false
      ∧ (inResetPin active).pins.resetLow = true ∧ (inResetPin active).pins.supplyLow = false
      ∧ (inResetSupply active).arb = ⟨.journal, none, none, none, none, none⟩
      ∧ (inResetPin active).arb = ⟨.journal, none, none, none, none, none⟩ := by decide

theorem test_meets_ALastingResetFollowsThePins :
    let s := inResetPin (inResetSupply active)
    s.pins.supplyLow = true ∧ s.pins.resetLow = true ∧ (inResetSupply active).pins.resetLow = false
      ∧ s.inReset = true ∧ s.pins.pfailLow = false ∧ (fenced s).pins.pfailLow = true
      ∧ s.pins.mcsLow = false ∧ (framed s).pins.mcsLow = true
      ∧ s.edge (.policyDecision .a) = false ∧ s.edge .pfailRise = false
      ∧ s.edge (.commit (sent 0x10 [])) = false ∧ s.edge .captureTake = false := by decide

theorem test_meets_PfailMovesTheFence :
    active.inReset = false ∧ active.pins.pfailLow = false ∧ (fenced active).pins.pfailLow = true
      ∧ active.arbiterSound ∧ active.noneRetaking
      ∧ (fenced active).arbiterSound ∧ (fenced active).fence.mode = .level ∧ (fenced active).noneHeld
      ∧ ({ fenced active with fence := ⟨.fenced, .hold, .latched⟩ } : State).fence.mode = .latched :=
  ⟨rfl, rfl, rfl, quiet_sound rfl, ⟨rfl, rfl⟩, quiet_sound rfl, rfl, ⟨by decide, by decide⟩, rfl⟩

theorem test_meets_ReleaseFenceIsDecidedInOrder :
    (framed active).takesBytes ∧ (framed active).arbiterSound ∧ (sent 0x30 []).args = []
      ∧ goodCrc 0x30 (sent 0x30 []) = true
      ∧ (working active .committing .commit (some .draining)).jc.op ≠ .none
      ∧ active.jc.op = .none ∧ active.fence.mode ≠ .latched
      ∧ (latched active).fence.mode = .latched ∧ (latched active).fence.state = .latched
      ∧ (latched active).noneHeld :=
  ⟨framed_takes rfl, quiet_sound rfl, rfl, sent_good _ _, by decide, rfl, by decide, rfl, rfl,
    ⟨by decide, by decide⟩⟩

/-- The grant and the retaken decisions at the end of a row leave the fence and the Journal Controller. -/
theorem ended_fence {b : Arbiter} {s : State} {x : FenceState} {c : Bool} (h : s.fence.state = x) :
    (State.settle b (s.retakeAtFence c)).fence.state = x := by simp [h]

theorem ended_op {b : Arbiter} {s : State} {x : LongOp} (h : s.jc.op = x) :
    (State.settle b s).jc.op = x := by simp [h]

/-- A COMMIT's last anchor, and the end of a drain for an APPLY with records in the journal, leave no operation. -/
theorem commit_op {s : State} (h1 : s.jc.step = some .advancing) (h2 : s.jc.op = .commit)
    (h3 : s.jc.epoch ≠ lastEpoch) : s.anchorDone.jc.op = .none := by
  simp [State.anchorDone, State.completeAdvance, State.completeCommit, State.endOperation, h1, h2, h3]

theorem notEmpty_op (s : State) : s.applyNotEmpty.jc.op = .none := by
  simp [State.applyNotEmpty, State.endOperation]

theorem drained_op {s : State} {p : Port} (h1 : s.jc.drain = [p]) (h2 : s.jc.op = .apply)
    (h3 : s.jc.fill ≠ 0) : (s.portResponded p).jc.op = .none := by
  simp [State.portResponded, State.drainDone, notEmpty_op, h1, h2, h3]

/-- An APPLY accepted with nothing to drain and records in the journal ends at its acceptance (R82, R141). -/
theorem apply_ends {f : FrameTail} {s : State} (h : s.takesBytes) (hc : goodCrc 0x13 f = true)
    (ha : lengthIs f 0 = true) (h1 : s.operationCheck [.active] = none) (h2 : s.store.staging = .ready)
    (h3 : s.jc.geom = some s.store.stagedGeom) (h4 : s.toDrain = []) (h5 : s.jc.fill ≠ 0) :
    ∃ t, exec (.apply f) s = .next t ∧ t.frame = answered 0x13 f .accepted [] ∧ t.jc.op = .none := by
  have ho : ((s.accept .applying .apply).startDrain []).jc.op = .none := by
    simp [State.startDrain, State.drainDone, State.accept, notEmpty_op, h5]
  have hb : State.applyCommand s
      = (.bare .accepted, ((s.accept .applying .apply).startDrain []).finishRetake) := by
    simp [State.applyCommand, h1, h2, h3, h4]
  have hr : dispatchResult codeApply f (lengthIs f 0) State.applyCommand s = State.applyCommand s := by
    have hc' : goodCrc codeApply f = true := hc
    simp [dispatchResult, crcMatches_eq, hc', ha]
  refine ⟨_, dispatch_taken h, ?_, ?_⟩ <;> simp only [State.occur, hr, hb]
  · simp [respondedFrame_eq, Reply.bare]; rfl
  · simp [ho]

/-- An ABORT that passes its checks is accepted (R16, R17). -/
theorem abort_accepted {f : FrameTail} {s : State} (h : s.takesBytes) (hc : goodCrc 0x11 f = true)
    (ha : lengthIs f 0 = true) (h1 : s.jc.op = .none) (h2 : s.fence.state = .normal) (h3 : s.jc.state = .active) :
    ∃ t, exec (.abort f) s = .next t ∧ s.shutsOut t (.abort f) := by
  have hr : dispatchResult codeAbort f (lengthIs f 0) State.abortCommand s = State.abortCommand s := by
    have hc' : goodCrc codeAbort f = true := hc
    simp [dispatchResult, crcMatches_eq, hc', ha]
  refine ⟨_, dispatch_taken h, .inr ⟨_, _, .inr (.inl rfl), rfl, h, ?_⟩⟩
  simp [State.occur, hr, State.abortCommand, State.operationCheck, h1, h2, h3, respondedFrame_eq, Reply.bare]
  rfl

/-- A fall of PFAIL# outside a reset (R149). -/
theorem fall_taken {s : State} (h1 : s.inReset = false) (h2 : s.pins.pfailLow = false) :
    ∃ t, exec .pfailFall s = .next t ∧ s.shutsOut t .pfailFall :=
  ⟨_, by
    simp only [exec, execPfailFall, h2]
    rw [if_neg (by simp), if_neg (by simpa [State.inReset] using h1)], .inl ⟨rfl, h1, h2⟩⟩

/-- A rise of PFAIL# taken under LEVEL (R150). -/
theorem rise_taken {s : State} (h1 : s.inReset = false) (h2 : s.pins.pfailLow = true) (h3 : s.fence.mode = .level) :
    ∃ t, exec .pfailRise s = .next t ∧ t.inReset = false ∧ t.fence.state = .normal ∧ t.jc = s.jc
      ∧ t.frame = s.frame ∧ t.pending = s.pending := by
  have he : s.pfailRisen = some (s.setPins { s.pins with pfailLow := false }).pfailRises := by
    simp [State.pfailRisen, h1, h2]
  refine ⟨_, by simp only [exec, execPfailRise, h1, h2, he, State.take]; rfl, ?_, ?_, ?_, ?_, ?_⟩
  · simpa [State.pfailRises, h3, State.inReset, State.changeFence] using h1
  all_goals simp [State.pfailRises, h3, State.changeFence]

/-- A RELEASE_FENCE answered OK (R151). -/
theorem release_taken {f : FrameTail} {s : State} (h : s.takesBytes) (hc : goodCrc 0x30 f = true)
    (ha : lengthIs f 0 = true) (h1 : s.jc.op = .none) (h2 : s.fence.mode = .latched) (h3 : s.fence.state = .latched) :
    ∃ t, exec (.releaseFence f) s = .next t ∧ t.inReset = s.inReset ∧ t.pins = s.pins := by
  have hr : dispatchResult codeReleaseFence f (lengthIs f 0) State.releaseFence s = State.releaseFence s := by
    have hc' : goodCrc codeReleaseFence f = true := hc
    simp [dispatchResult, crcMatches_eq, hc', ha]
  refine ⟨_, dispatch_taken h, ?_, ?_⟩ <;>
    simp [State.occur, hr, State.releaseFence, h1, h2, h3, State.changeFence, State.inReset]

/-- The step takes the command that comes next. -/
theorem step_next {s : State} {c : Instr} {rest : List Instr} (h : s.pending = c :: rest) :
    step s = exec c (s.setPending rest) := by
  simp [step, h]

/-- A write held by the fence under LEVEL, and the rise of PFAIL#. -/
theorem test_meets_AHeldWriteRetakesItsDecision :
    let s := hosting (fenced active) .held heldTxn
    ∃ t u v, exec .pfailRise s = .next t ∧ exec .pfailRise (s.redecides .a) = .next u
      ∧ exec (.policyDecision .a) u = .next v ∧ s.noneRetaking
      ∧ (s.port .a).stage = .held ∧ (s.port .a).txn = some heldTxn ∧ (s.port .b).stage ≠ .held
      ∧ s.endsHolding t .pfailRise :=
  ⟨_, _, _, rfl, rfl, rfl, ⟨rfl, rfl⟩, rfl, rfl, by decide, .inl ⟨by decide, ended_fence rfl⟩⟩

/-- A write held by a COMMIT that completes. -/
theorem test_meets_AHeldWriteRetakesItsDecision_commit :
    let op : MemOp := ⟨.anchorWriteSecond, 0xFFFF50, 5, List.replicate 20 (some 0)⟩
    let w := working (hosting active .held heldTxn) .committing .commit (some .advancing)
    let s := atPort { w with anchors := { w.anchors with op := some (.writeSecond .a 3) } } .journal op
    ∃ t u, exec .anchorWriteComplete s = .next t ∧ exec .anchorWriteComplete (s.redecides .a) = .next u
      ∧ (s.port .a).stage = .held ∧ s.noneRetaking ∧ s.endsHolding t .anchorWriteComplete :=
  ⟨_, _, rfl, rfl, rfl, ⟨rfl, rfl⟩, .inr (.inl ⟨.inl rfl, ended_op (commit_op rfl rfl (by decide))⟩)⟩

set_option maxRecDepth 100000 in
/-- A write held by an APPLY with fill 1 whose drain ends with port B's read, and an APPLY with nothing to drain
that ends at its acceptance. -/
theorem test_meets_AHeldWriteRetakesItsDecision_apply :
    let filled (s : State) : State := { s with jc := { s.jc with fill := 1 } }
    let w := working (filled (hosting active .held heldTxn)) .applying .apply (some .draining)
    let s := atPort { w with
      jc := { w.jc with drain := [.b] }, portB := ⟨.inMemory, some readTxn, none⟩ } .portB readTxn.readOp
    let r := framed (filled (hosting active .held heldTxn))
    (∃ t, exec (.hostReadComplete .b false) s = .next t ∧ s.endsHolding t (.hostReadComplete .b false))
      ∧ (∃ t, exec (.apply (sent 0x13 [])) r = .next t ∧ r.endsHolding t (.apply (sent 0x13 [])))
      ∧ (s.port .a).stage = .held ∧ (r.port .a).stage = .held ∧ s.noneRetaking ∧ r.noneRetaking := by
  obtain ⟨t, ht, hf, ho⟩ := apply_ends (f := sent 0x13 [])
    (s := framed { hosting active .held heldTxn with jc := { (hosting active .held heldTxn).jc with fill := 1 } })
    (framed_takes rfl) (sent_good _ _) rfl rfl rfl rfl (by decide) (by decide)
  exact ⟨⟨_, rfl, .inr (.inl ⟨.inr rfl, ended_op (drained_op rfl rfl (by decide))⟩)⟩,
    ⟨t, ht, .inr (.inr ⟨_, rfl, framed_takes rfl, hf, ho⟩)⟩, rfl, rfl, ⟨rfl, rfl⟩, ⟨rfl, rfl⟩⟩

/-- Writes held at both ports. -/
theorem test_meets_AHeldWriteRetakesItsDecision_both :
    let s : State := { hosting (fenced active) .held heldTxn with portB := ⟨.held, some heldTxn, none⟩ }
    ∃ u v v' w w', exec .pfailRise ((s.redecides .a).redecides .b) = .next u
      ∧ exec (.policyDecision .a) u = .next v ∧ exec (.policyDecision .b) v = .next v'
      ∧ exec (.policyDecision .b) u = .next w ∧ exec (.policyDecision .a) w = .next w'
      ∧ (s.port .a).stage = .held ∧ (s.port .b).stage = .held ∧ (s.port .b).txn = some heldTxn
      ∧ s.noneRetaking :=
  ⟨_, _, _, _, _, rfl, rfl, rfl, rfl, rfl, rfl, rfl, rfl, ⟨rfl, rfl⟩⟩

/-- A decision to retake, and the fall of PFAIL# that was taken before it; decisions to retake at both ports. -/
theorem test_meets_AHeldWriteRetakesItsDecision_shutOut :
    let s := hosting active .deciding heldTxn
    let d : State := { s with portB := ⟨.deciding, some heldTxn, none⟩ }
    (∃ t u v, exec .pfailFall s = .next t ∧ exec .pfailFall (s.redecides .a) = .next u
        ∧ exec (.policyDecision .a) u = .next v ∧ s.shutsOut t .pfailFall)
      ∧ s.noneHeld ∧ s.retaking .a = true ∧ s.retaking .b = false
      ∧ (∃ t u v v' w w', exec .pfailFall d = .next t ∧ exec .pfailFall ((d.redecides .a).redecides .b) = .next u
        ∧ exec (.policyDecision .a) u = .next v ∧ exec (.policyDecision .b) v = .next v'
        ∧ exec (.policyDecision .b) u = .next w ∧ exec (.policyDecision .a) w = .next w' ∧ d.shutsOut t .pfailFall)
      ∧ d.noneHeld ∧ d.retaking .a = true ∧ d.retaking .b = true :=
  ⟨⟨_, _, _, rfl, rfl, rfl, .inl ⟨rfl, rfl, rfl⟩⟩, ⟨by decide, by decide⟩, rfl, rfl,
    ⟨_, _, _, _, _, _, rfl, rfl, rfl, rfl, rfl, rfl, .inl ⟨rfl, rfl, rfl⟩⟩, ⟨by decide, by decide⟩, rfl, rfl⟩

/-- A decision to retake, and an ABORT that was accepted before it and drains port B's read. -/
theorem test_meets_AHeldWriteRetakesItsDecision_accepted :
    let s := framed { hosting active .deciding heldTxn with portB := ⟨.inMemory, some readTxn, none⟩ }
    (∃ t, exec (.abort (sent 0x11 [])) s = .next t ∧ s.shutsOut t (.abort (sent 0x11 [])))
      ∧ s.noneHeld ∧ s.retaking .a = true ∧ s.retaking .b = false :=
  ⟨abort_accepted (framed_takes rfl) (sent_good _ _) rfl rfl rfl rfl, ⟨by decide, by decide⟩, rfl, rfl⟩

/-- A write held by the fence, the rise of PFAIL# and an ABORT that comes next; a RELEASE_FENCE and a fall that comes
next. -/
theorem test_meets_AHeldWriteRetakesItsDecision_comesNext :
    let s := { framed (hosting (fenced active) .held heldTxn) with pending := [.abort (sent 0x11 [])] }
    let r := { framed (hosting (latched active) .held heldTxn) with pending := [.pfailFall] }
    (∃ t, exec .pfailRise s = .next t ∧ s.comesNext t .pfailRise ∧ s.noneRetaking)
      ∧ ∃ t, exec (.releaseFence (sent 0x30 [])) r = .next t ∧ r.comesNext t (.releaseFence (sent 0x30 []))
          ∧ r.noneRetaking := by
  obtain ⟨t, ht, t1, t2, t3, t4, -⟩ := rise_taken
    (s := { framed (hosting (fenced active) .held heldTxn) with pending := [.abort (sent 0x11 [])] }) rfl rfl rfl
  obtain ⟨u, hu, hs⟩ := abort_accepted (f := sent 0x11 []) (s := t) ⟨t1, _, t4, rfl⟩ (sent_good _ _) rfl
    (by rw [t3]; rfl) t2 (by rw [t3]; rfl)
  obtain ⟨v, hv, v1, v2⟩ := release_taken (f := sent 0x30 [])
    (s := { framed (hosting (latched active) .held heldTxn) with pending := [.pfailFall] })
    (framed_takes (s := { hosting (latched active) .held heldTxn with pending := [.pfailFall] }) rfl) (sent_good _ _)
    rfl rfl rfl rfl
  obtain ⟨w, hw, hf⟩ := fall_taken (s := v) (by rw [v1]; rfl) (by rw [v2]; rfl)
  exact ⟨⟨t, ht, ⟨_, u, rfl, hu, hs, .inl ⟨rfl, by decide⟩⟩, ⟨rfl, rfl⟩⟩,
    v, hv, ⟨_, w, rfl, hw, hf, .inr ⟨_, rfl, rfl⟩⟩, ⟨rfl, rfl⟩⟩

/-- Two steps, the rise and the ABORT that comes next. -/
theorem test_meets_AHeldWriteRetakesItsDecision_steps :
    let s := { framed (hosting (fenced active) .held heldTxn) with pending := [.pfailRise, .abort (sent 0x11 [])] }
    s.noneRetaking ∧ ∃ t u, step s = .next t ∧ step t = .next u := by
  obtain ⟨t, ht, t1, t2, t3, t4, t5⟩ := rise_taken
    (s := { framed (hosting (fenced active) .held heldTxn) with pending := [.abort (sent 0x11 [])] }) rfl rfl rfl
  obtain ⟨u, hu, -⟩ := abort_accepted (f := sent 0x11 []) (s := t.setPending [])
    ⟨by simpa [State.inReset] using t1, _, t4, rfl⟩ (sent_good _ _) rfl
    (by rw [State.setPending_jc, t3]; rfl) (by simpa using t2)
    (by rw [State.setPending_jc, t3]; rfl)
  exact ⟨⟨rfl, rfl⟩, t, u, (step_next rfl).trans ht, (step_next t5).trans hu⟩

set_option maxRecDepth 100000 in
/-- R17, R151: what comes together with a rise and with a RELEASE_FENCE is the next command, an acceptance and a fall;
a frame with a bad CRC-8, a fenced part and a fall with PFAIL# low are none. -/
theorem test_what_comes_next :
    let s := framed { active with pending := [.abort (sent 0x11 [])] }
    let r : State := { active with pending := [.pfailFall] }
    s.acceptanceNext = true ∧ s.fallNext = false ∧ r.fallNext = true ∧ r.acceptanceNext = false
      ∧ (framed { active with pending := [.abort ⟨[], 1⟩] }).acceptanceNext = false
      ∧ (fenced s).acceptanceNext = false ∧ (fenced r).fallNext = false := by decide

theorem test_meets_FramesOpenAndClose :
    active.inReset = false ∧ active.pins.mcsLow = false ∧ (framed active).pins.mcsLow = true
      ∧ (∃ k, (framed active).frame = some k ∧ k.softReset = false)
      ∧ ∃ k, ({ framed active with frame := some ⟨.responding, [], 0, [], false⟩ } : State).frame = some k
          ∧ k.phase = .responding :=
  ⟨rfl, rfl, rfl, ⟨_, rfl, rfl⟩, ⟨_, rfl, rfl⟩⟩

set_option maxRecDepth 100000 in
/-- A bad CRC-8, a code that is no command, a wrong length (STATUS with an argument, STAGE_WRITE one byte short),
and a listed code under UNKNOWN_COMMAND's row. -/
theorem test_meets_AFrameThatFailsACheckChangesNothing :
    frameOf (.status ⟨[], 1⟩) = some (0x01, ⟨[], 1⟩) ∧ goodCrc 0x01 ⟨[], 1⟩ = false
      ∧ frameOf (.unknownCommand 0xFF (sent 0xFF [])) = some (0xFF, sent 0xFF [])
      ∧ (0xFF : Byte) ∉ commandCodes ∧ (0x00 : Byte) ∉ commandCodes
      ∧ legalLength 0x01 (sent 0x01 [0]).args ≠ some (sent 0x01 [0]).args.length
      ∧ legalLength 0x20 [0x20, 1, 0, 0, 0] ≠ some 5 ∧ legalLength 0x20 [0x20, 1, 0, 0, 0, 0] = some 6
      ∧ (0x01 : Byte) ∈ commandCodes := by decide

theorem test_meets_StatusIsASnapshot :
    (framed active).takesBytes ∧ (framed active).arbiterSound ∧ (sent 0x01 []).args = []
      ∧ goodCrc 0x01 (sent 0x01 []) = true :=
  ⟨framed_takes rfl, quiet_sound rfl, rfl, sent_good _ _⟩

/-- A recovering part, and one with each record present. -/
theorem test_meets_TheRecordsAreRead :
    (framed active).takesBytes ∧ (framed active).arbiterSound ∧ goodCrc 0x40 (sent 0x40 []) = true
      ∧ goodCrc 0x41 (sent 0x41 []) = true ∧ goodCrc 0x42 (sent 0x42 []) = true
      ∧ (framed State.reset).takesBytes ∧ State.reset.jc.state = .recovering
      ∧ active.jc.state ≠ .recovering ∧ active.jc.lastOp = none ∧ active.attn.fault = none
      ∧ (∃ r, ({ active with attn := { active.attn with report := some (Report.start .soft) } } : State).attn.report
          = some r)
      ∧ (∃ r, ({ active with jc := { active.jc with lastOp := some ⟨.commit, .done, 1, 2, 0, [], 0⟩ } }
          : State).jc.lastOp = some r)
      ∧ ∃ r, ({ active with attn := { active.attn with
          fault := some ⟨.a, .read, 0, 15, 1, .malformed, 1⟩ } } : State).attn.fault = some r :=
  ⟨framed_takes rfl, quiet_sound rfl, sent_good _ _, sent_good _ _, sent_good _ _, framed_takes rfl, rfl,
    by decide, rfl, rfl, ⟨_, rfl⟩, ⟨_, rfl⟩, ⟨_, rfl⟩⟩

/-- The byte at the edge of the six causes, on both sides. -/
theorem test_meets_AttentionIsGovernedByItsCommands :
    (framed active).takesBytes ∧ (framed active).arbiterSound ∧ goodCrc 0x43 (sent 0x43 []) = true
      ∧ goodCrc 0x50 (sent 0x50 [0x3F]) = true ∧ goodCrc 0x51 (sent 0x51 [0x40]) = true
      ∧ (0x3F : Byte).toNat < 64 ∧ 64 ≤ (0x40 : Byte).toNat ∧ active.jc.state ≠ .recovering
      ∧ State.reset.jc.state = .recovering :=
  ⟨framed_takes rfl, quiet_sound rfl, sent_good _ _, sent_good _ _, sent_good _ _, by decide, by decide,
    by decide, rfl⟩

theorem test_meets_FramesOpenAndClose_softReset :
    (framed active).takesBytes ∧ (framed active).arbiterSound ∧ goodCrc 0x5A (sent 0x5A []) = true
      ∧ active.jc.op ≠ .recovery ∧ State.reset.jc.op = .recovery :=
  ⟨framed_takes rfl, quiet_sound rfl, sent_good _ _, by decide, rfl⟩

theorem test_meets_APresentationAndItsResponse :
    active.inReset = false ∧ (Presentation.mk false true 0 1 [15, 15] [1, 2]).wf = true
      ∧ (Presentation.mk true true 0 7 [15] []).wf = true ∧ (active.port .a).stage = .idle
      ∧ ((hosting active .held writeTxn).port .a).stage ≠ .idle := by decide

/-- For each check of the decision one transaction and part at which it is the first to apply; the burst of
eight words from the second word of its block is malformed, from the first it is not, and the first address
past a 1 MiB memory is out of range. -/
theorem test_meets_ThePolicyDecisionRefuses :
    active.inReset = false ∧ active.arbiterSound
      ∧ ((hosting active .deciding writeTxn).port .a).stage = .deciding
      ∧ (8 < 4 / 4 % 8 + 8 ∧ ¬ 8 < 0 / 4 % 8 + 8)
      ∧ (¬ 1048576 < MemSize.m1.lines * 64 ∧ 1048572 < MemSize.m1.lines * 64)
      ∧ State.reset.jc.state = .recovering
      ∧ active.decoder.resolve 19 = .reserved ∧ active.decoder.resolve 20 = .covered .direct 8
      ∧ ({ active.decoder with windows := [⟨20, 20, some .guarded⟩] } : Decoder).resolve 20
          = .covered .guarded 0
      ∧ (working active .damaged .none none).jc.state = .damaged
      ∧ ({ fenced active with fence := ⟨.fenced, .refuse, .level⟩ } : State).fence.action = .refuse :=
  ⟨rfl, quiet_sound rfl, rfl, by decide, by decide, rfl, by decide, by decide, by decide, rfl, rfl⟩

theorem test_meets_ThePolicyDecisionPerformsReads :
    let s := hosting active .deciding readTxn
    s.inReset = false ∧ s.arb.request (portRequester .a) = none ∧ (s.port .a).stage = .deciding
      ∧ (s.port .a).txn = some readTxn ∧ readTxn.bothStrobes = false ∧ readTxn.addr / 4 % 8 + readTxn.len ≤ 8
      ∧ readTxn.addr < s.memSize.lines * 64 ∧ s.jc.state ≠ .recovering ∧ s.jc.state ≠ .aborting
      ∧ s.jc.state ≠ .formatting ∧ readTxn.kind = .read := by decide

/-- A write held by COMMITTING, and one held by the fence. -/
theorem test_meets_ThePolicyDecisionHolds :
    let x : Txn := { writeTxn with addr := 1280 }
    let s := hosting active .deciding x
    s.inReset = false ∧ s.arbiterSound ∧ (s.port .a).stage = .deciding ∧ (s.port .a).txn = some x
      ∧ x.bothStrobes = false ∧ x.addr / 4 % 8 + x.len ≤ 8 ∧ x.addr < s.memSize.lines * 64 ∧ x.kind = .write
      ∧ s.decoder.resolve (x.addr / 64) = .covered .direct 8
      ∧ (working s .committing .commit (some .draining)).jc.state = .committing ∧ s.fence.state = .normal
      ∧ (fenced s).jc.state = .active ∧ (fenced s).fence.state ≠ .normal ∧ (fenced s).fence.action = .hold :=
  ⟨rfl, quiet_sound rfl, rfl, rfl, rfl, by decide, by decide, rfl, by decide, rfl, rfl, rfl, by decide, rfl⟩

/-- A write without enables, a DIRECT one, a JOURNALED one to a tracked line and one to an untracked line. -/
theorem test_meets_ThePolicyDecisionTakesWrites :
    let x : Txn := { writeTxn with addr := 1280 }
    let s := hosting active .deciding x
    let j : State := { s with decoder := { s.decoder with default := .journaled } }
    s.inReset = false ∧ s.arbiterSound ∧ s.arb.request (portRequester .a) = none
      ∧ (s.port .a).stage = .deciding ∧ (s.port .a).txn = some x
      ∧ x.bothStrobes = false ∧ x.addr / 4 % 8 + x.len ≤ 8 ∧ x.addr < s.memSize.lines * 64 ∧ x.kind = .write
      ∧ s.decoder.resolve (x.addr / 64) = .covered .direct 8
      ∧ j.decoder.resolve (x.addr / 64) = .covered .journaled 8
      ∧ s.jc.state = .active ∧ s.fence.state = .normal
      ∧ (∀ be ∈ ({ x with enables := [0] } : Txn).enables, be = 0) ∧ (∃ be ∈ x.enables, be ≠ 0)
      ∧ x.addr / 64 ∉ s.filter.lines ∧ x.addr / 64 ∈ ({ s.filter with lines := [20] } : Filter).lines :=
  ⟨rfl, quiet_sound rfl, rfl, rfl, rfl, rfl, by decide, by decide, rfl, by decide, by decide, rfl, rfl,
    by decide, by decide, by decide, by decide⟩

theorem test_meets_AHostReadCompletes :
    let op : MemOp := ⟨.hostRead, 0, 1, []⟩
    let s := atPort (hosting active .inMemory readTxn) .portA op
    s.inPort (portRequester .a) .hostRead op ∧ (s.port .a).txn = some readTxn ∧ Port.a ∉ s.jc.drain :=
  ⟨atPort_inPort rfl rfl, rfl, by decide⟩

theorem test_meets_AHostWriteStoresItsEnabledBytes :
    let x := writeTxn
    let op : MemOp := ⟨.hostWrite, x.addr, x.len, hostCells x.enables x.data⟩
    let s := atPort (hosting active .inMemory x) .portA op
    s.inPort (portRequester .a) .hostWrite op ∧ (s.port .a).txn = some x ∧ Port.a ∉ s.jc.drain
      ∧ x.enables.length = x.len ∧ x.data.length = x.len ∧ x.len ≤ 8 :=
  ⟨atPort_inPort rfl rfl, rfl, by decide, rfl, rfl, by decide⟩

theorem test_meets_APresentationAndItsResponse_response :
    let s := hosting active .responding readTxn
    s.inReset = false ∧ (s.port .a).stage = .responding ∧ (s.port .a).txn = some readTxn := by decide

/-- An entry whose line is tracked, and one whose line is not. -/
theorem test_meets_TheEngineTakesTheHeadOfTheQueue :
    let e : Entry := ⟨.a, 20, 0⟩
    let s : State := { hosting active .captureWait writeTxn with engine := ⟨[e], none⟩ }
    s.inReset = false ∧ s.engine = ⟨e :: [], none⟩ ∧ (s.port e.port).txn = some writeTxn
      ∧ s.arb.request (portRequester e.port) = none ∧ s.arb.request .capture = none
      ∧ e.line ∉ s.filter.lines ∧ e.line ∈ ({ s.filter with lines := [20] } : Filter).lines := by decide

theorem test_meets_ALineReadCompletes :
    let e : Entry := ⟨.a, 20, 0⟩
    let op : MemOp := ⟨.lineRead, 1280, 16, []⟩
    let s := atPort { hosting active .captureWait writeTxn with engine := ⟨[], some ⟨e, .reading⟩⟩ } .capture op
    s.inPort .capture .lineRead op ∧ s.engine = ⟨[], some ⟨e, .reading⟩⟩ ∧ (s.port e.port).txn = some writeTxn
      ∧ writeTxn.kind = .write ∧ e.port ∉ s.jc.drain :=
  ⟨atPort_inPort rfl rfl, rfl, rfl, rfl, by decide⟩

/-- The last free slot, and a full journal. -/
theorem test_meets_AReservationTakesSlotFillOrFails :
    let e : Entry := ⟨.a, 20, 0⟩
    let image := List.replicate 64 (0 : Byte)
    let s : State :=
      { hosting active .captureWait writeTxn with engine := ⟨[], some ⟨e, .reserving image⟩⟩ }
    s.inReset = false ∧ s.engine = ⟨[], some ⟨e, .reserving image⟩⟩ ∧ s.jc.geom = some geom16
      ∧ s.arb.request .capture = none ∧ image.length = 64
      ∧ ({ s.jc with fill := 15 } : Journal).fill < geom16.count
      ∧ geom16.count ≤ ({ s.jc with fill := 16 } : Journal).fill ∧ s.arbiterSound
      ∧ (s.port e.port).txn = some writeTxn ∧ writeTxn.kind = .write ∧ e.port ∉ s.jc.drain :=
  ⟨rfl, rfl, rfl, rfl, rfl, by decide, by decide, quiet_sound rfl, rfl, rfl, by decide⟩

theorem test_meets_ACompletedRecordIsCounted :
    let e : Entry := ⟨.a, 20, 0⟩
    let op : MemOp := ⟨.recordWrite, 0, 20, List.replicate 80 (some 0)⟩
    let s := atPort { hosting active .captureWait writeTxn with engine := ⟨[], some ⟨e, .writing 0⟩⟩ } .capture op
    s.inPort .capture .recordWrite op ∧ op.cells.length ≤ 80 ∧ s.engine = ⟨[], some ⟨e, .writing 0⟩⟩ :=
  ⟨atPort_inPort rfl rfl, by simp, rfl⟩

/-- A line that is tracked, one that is not below capacity, and one that meets a full set. -/
theorem test_meets_TheFilterTakesAnInsertion :
    let e : Entry := ⟨.a, 20, 0⟩
    let s : State := { hosting active .captureWait writeTxn with engine := ⟨[], some ⟨e, .inserting 0⟩⟩ }
    s.inReset = false ∧ s.engine = ⟨[], some ⟨e, .inserting 0⟩⟩ ∧ (s.port e.port).txn = some writeTxn
      ∧ s.arb.request (portRequester e.port) = none
      ∧ e.line ∈ ({ s.filter with lines := [20] } : Filter).lines
      ∧ e.line ∉ s.filter.lines ∧ s.filter.lines.length < 1024
      ∧ e.line ∉ List.range' 100 1024 ∧ 1024 ≤ (List.range' 100 1024).length :=
  ⟨rfl, rfl, rfl, rfl, by decide, by decide, by decide, by simp, by simp⟩

set_option maxRecDepth 100000 in
/-- One command for each result of the table. -/
theorem test_meets_OperationCommandsAreDecidedInOrder :
    (framed active).takesBytes ∧ (framed active).arbiterSound ∧ goodCrc 0x10 ⟨[], 0⟩ = false
      ∧ goodCrc 0x10 (sent 0x10 [0]) = true ∧ (sent 0x10 [0]).args ≠ []
      ∧ (working active .committing .commit (some .draining)).jc.op ≠ .none
      ∧ (fenced active).fence.state ≠ .normal
      ∧ (working active .unformatted .none none).jc.state = .unformatted
      ∧ ({ active.store with staging := .draft } : Store).staging ≠ .ready
      ∧ ({ active.jc with fill := 1 } : Journal).fill ≠ 0
      ∧ ({ active.jc with geom := some ⟨1, 16⟩ } : Journal).geom ≠ some active.store.stagedGeom
      ∧ active.jc.op = .none :=
  ⟨framed_takes rfl, quiet_sound rfl, rfl, sent_good _ _, by decide, by decide, by decide, rfl, by decide,
    by decide, by decide, rfl⟩

/-- COMMIT, ABORT, FORMAT and APPLY in ACTIVE, and FORMAT in UNFORMATTED, with port A in IN_MEMORY. -/
theorem test_meets_AnAcceptedOperationDrainsFirst :
    let s := hosting (framed active) .inMemory readTxn
    let d : List Port := [.a]
    s.takesBytes ∧ s.arbiterSound ∧ (sent 0x10 []).args = [] ∧ goodCrc 0x10 (sent 0x10 []) = true
      ∧ goodCrc 0x11 (sent 0x11 []) = true ∧ goodCrc 0x12 (sent 0x12 []) = true
      ∧ goodCrc 0x13 (sent 0x13 []) = true ∧ s.jc.op = .none ∧ s.fence.state = .normal
      ∧ s.jc.state = .active ∧ s.jc.fill = 0 ∧ s.store.staging = .ready
      ∧ s.jc.geom = some s.store.stagedGeom
      ∧ (working s .unformatted .none none).jc.state = .unformatted
      ∧ d = (if s.portA.stage = .captureWait ∨ s.portA.stage = .inMemory then [.a] else [])
        ++ (if s.portB.stage = .captureWait ∨ s.portB.stage = .inMemory then [.b] else [])
      ∧ d ≠ [] ∧ s.noneRetaking :=
  ⟨⟨rfl, _, rfl, rfl⟩, quiet_sound rfl, rfl, sent_good _ _, sent_good _ _, sent_good _ _, sent_good _ _, rfl, rfl,
    rfl, rfl, rfl, rfl, rfl, by decide, by decide, ⟨rfl, rfl⟩⟩

/-- The same with both ports idle, for a fill of 0 and above 0. -/
theorem test_meets_AnAcceptedOperationWithNothingToDrainBegins :
    let s := framed active
    s.takesBytes ∧ s.arbiterSound ∧ goodCrc 0x10 (sent 0x10 []) = true ∧ s.jc.op = .none
      ∧ s.fence.state = .normal ∧ s.eightWindows ∧ s.jc.state = .active ∧ s.jc.geom = some geom16
      ∧ s.store.staging = .ready ∧ s.jc.fill = 0 ∧ s.store.stagedGeom = geom16 ∧ s.noneHeld
      ∧ s.noneRetaking
      ∧ ({ s.jc with fill := 1 } : Journal).fill ≠ 0
      ∧ ∀ p, (s.port p).stage ≠ .captureWait ∧ (s.port p).stage ≠ .inMemory :=
  ⟨framed_takes rfl, quiet_sound rfl, sent_good _ _, rfl, rfl, ⟨rfl, rfl⟩, rfl, rfl, rfl, rfl, rfl,
    ⟨by decide, by decide⟩, ⟨rfl, rfl⟩, by decide, fun p => by cases p <;> decide⟩

theorem test_meets_OperationsBeginAtOnceInDamaged :
    let s := working (framed active) .damaged .none none
    s.takesBytes ∧ s.jc.op = .none ∧ s.fence.state = .normal ∧ s.jc.state = .damaged
      ∧ s.jc.geom = some geom16 ∧ s.jc.drain = [] ∧ s.eightWindows ∧ goodCrc 0x10 (sent 0x10 []) = true
      ∧ goodCrc 0x11 (sent 0x11 []) = true ∧ goodCrc 0x12 (sent 0x12 []) = true ∧ 0 < geom16.count
      ∧ s.store.staging = .ready ∧ s.noneRetaking :=
  ⟨⟨rfl, _, rfl, rfl⟩, rfl, rfl, rfl, rfl, rfl, ⟨rfl, rfl⟩, sent_good _ _, sent_good _ _, sent_good _ _,
    by decide, rfl, ⟨rfl, rfl⟩⟩

/-- A part that drains for a COMMIT. -/
def draining (d : List Port) : State :=
  let s := working active .committing .commit (some .draining)
  { s with jc := { s.jc with drain := d } }

/-- The last transaction of a drain, and one of two, ending in each of the five ways. -/
theorem test_meets_TheDrainEndsWithTheLastResponse :
    let w : MemOp := ⟨.hostWrite, 0, 1, hostCells [15] [0]⟩
    let r : MemOp := ⟨.hostRead, 0, 1, []⟩
    let l : MemOp := ⟨.lineRead, 1280, 16, []⟩
    let e : Entry := ⟨.a, 20, 0⟩
    let write := atPort (hosting (draining [.a]) .inMemory writeTxn) .portA w
    let read := atPort (hosting (draining [.a, .b]) .inMemory readTxn) .portA r
    let line := atPort { hosting (draining [.a]) .captureWait writeTxn with
      engine := ⟨[], some ⟨e, .reading⟩⟩ } .capture l
    let slot : State := { hosting (draining [.b, .a]) .captureWait writeTxn with
      jc := { (draining [.b, .a]).jc with fill := 16 }
      engine := ⟨[], some ⟨e, .reserving []⟩⟩ }
    (write.inPort (portRequester .a) .hostWrite w ∧ write.jc.drain = [.a] ∧ write.jc.geom = some geom16
        ∧ write.eightWindows ∧ (write.port .a).txn = some writeTxn
        ∧ ∃ u, exec (.hostWriteComplete .a) { write with jc := { write.jc with drain := [] } } = .next u)
      ∧ (read.inPort (portRequester .a) .hostRead r ∧ read.jc.drain = [.a, .b]
        ∧ (read.port .a).txn = some readTxn
        ∧ (∃ u, exec (.hostReadComplete .a false) { read with jc := { read.jc with drain := [] } } = .next u)
        ∧ ∃ u, exec (.hostReadComplete .a true) { read with jc := { read.jc with drain := [] } } = .next u)
      ∧ (line.inPort .capture .lineRead l ∧ line.engine = ⟨[], some ⟨e, .reading⟩⟩
        ∧ (line.port e.port).txn = some writeTxn
        ∧ ∃ u, exec (.lineReadComplete true) { line with jc := { line.jc with drain := [] } } = .next u)
      ∧ slot.inReset = false ∧ slot.engine = ⟨[], some ⟨e, .reserving []⟩⟩ ∧ geom16.count ≤ slot.jc.fill
        ∧ slot.jc.drain = [.b, .a] ∧ (slot.port e.port).txn = some writeTxn
        ∧ ∃ u, exec .slotReservation { slot with jc := { slot.jc with drain := [] } } = .next u :=
  ⟨⟨atPort_inPort rfl rfl, rfl, rfl, ⟨rfl, rfl⟩, rfl, ⟨_, rfl⟩⟩,
    ⟨atPort_inPort rfl rfl, rfl, rfl, ⟨_, rfl⟩, ⟨_, rfl⟩⟩,
    ⟨atPort_inPort rfl rfl, rfl, rfl, ⟨_, rfl⟩⟩, rfl, rfl, by decide, rfl, rfl, ⟨_, rfl⟩⟩

/-- Each item with its fields at the edge of legal, and one past it. -/
theorem test_meets_StageWriteReplacesOneItem :
    (framed active).takesBytes ∧ (framed active).arbiterSound
      ∧ goodCrc 0x20 (sent 0x20 [0x10, 0, 3, 255, 255, 0, 16]) = true
      ∧ goodCrc 0x20 (sent 0x20 [0x20, 3, 0, 0, 1, 1]) = true
      ∧ goodCrc 0x20 (sent 0x20 [7, 0, 3, 255, 255, 0, 3, 255, 255, 3]) = true
      ∧ 16777216 * (0 : Byte).toNat + 65536 * (3 : Byte).toNat + 256 * (255 : Byte).toNat + (255 : Byte).toNat
          = 262143
      ∧ ¬ (16777216 * (0 : Byte).toNat + 65536 * (4 : Byte).toNat + 256 * (0 : Byte).toNat + (0 : Byte).toNat
          ≤ 262143)
      ∧ ¬ (1 ≤ (0 : Byte).toNat) ∧ ¬ ((2 : Byte).toNat ≤ 1) ∧ ¬ ((4 : Byte).toNat ≤ 3) ∧ (7 : Byte).toNat ≤ 7
      ∧ State.reset.jc.state = .recovering ∧ active.jc.state = .active :=
  ⟨framed_takes rfl, quiet_sound rfl, sent_good _ _, sent_good _ _, sent_good _ _, by decide, by decide, by decide,
    by decide, by decide, by decide, rfl, rfl⟩

theorem test_meets_StageReadReturnsOneItem :
    (framed active).takesBytes ∧ (framed active).arbiterSound ∧ goodCrc 0x21 (sent 0x21 [0x10]) = true
      ∧ (8 : Byte) ≠ 0x10 ∧ (8 : Byte) ≠ 0x20 ∧ 7 < (8 : Byte).toNat ∧ (7 : Byte).toNat ≤ 7
      ∧ active.store.staged.windows[7]? = some ⟨0, 0, none⟩ ∧ active.jc.state ≠ .recovering
      ∧ State.reset.jc.state = .recovering :=
  ⟨framed_takes rfl, quiet_sound rfl, sent_good _ _, by decide, by decide, by decide, by decide, by decide,
    by decide, rfl⟩

set_option maxRecDepth 100000 in
theorem test_meets_StagedItemsReadBackAsWritten :
    let f := sent 0x20 [0x10, 0, 0, 0, 1, 0, 16]
    ∃ t, exec (.stageWrite f) (framed active) = .next t ∧ t.frame = answered 0x20 f .ok []
      ∧ (framed active).takesBytes ∧ (framed active).arbiterSound
      ∧ (framed active).store.staged.windows.length = 8
      ∧ (sent 0x21 [0x10]).args = [f.args.headD 0] ∧ goodCrc 0x21 (sent 0x21 [0x10]) = true :=
  ⟨_, rfl, by decide, framed_takes rfl, quiet_sound rfl, rfl, rfl, sent_good _ _⟩

/-- An image that fails each check first, and one that passes: slot count 15, an extent one line too long, a
window out of order, past memory, on the last line of the extent, and a threshold of 17. -/
theorem test_meets_ValidateReportsTheFirstFailingCheck :
    (framed active).takesBytes ∧ (framed active).arbiterSound ∧ goodCrc 0x22 (sent 0x22 []) = true
      ∧ State.reset.jc.state = .recovering ∧ active.jc.state = .active
      ∧ ¬ (16 ≤ (15 : Nat)) ∧ MemSize.m16.lines - 4 < 262121 + (16 * 5 + 3) / 4
      ∧ ¬ (MemSize.m16.lines - 4 < 262120 + (16 * 5 + 3) / 4)
      ∧ firstFailing [⟨9, 8, none⟩, ⟨9, 8, some .direct⟩] (fun w => w.policy ≠ none ∧ w.last < w.first) 1
      ∧ firstFailing [⟨20, 262144, some .direct⟩] (fun w => w.policy ≠ none ∧ MemSize.m16.lines ≤ w.last) 0
      ∧ firstFailing [⟨20, 30, some .direct⟩, ⟨19, 19, some .direct⟩]
          (fun w => w.policy ≠ none ∧ ∃ l, w.first ≤ l ∧ l ≤ w.last
            ∧ ((0 ≤ l ∧ l < 0 + 20) ∨ (MemSize.m16.lines - 4 ≤ l ∧ l < MemSize.m16.lines))) 1
      ∧ (16 : Nat) < 17 ∧ active.store.staged.alert ≤ active.store.stagedGeom.count := by
  refine ⟨framed_takes rfl, quiet_sound rfl, sent_good _ _, rfl, rfl, by decide, by decide, by decide,
    ⟨⟨_, rfl, by decide⟩, ?_⟩, ⟨⟨_, rfl, by decide⟩, ?_⟩, ⟨⟨_, rfl, by decide, 19, by decide⟩, ?_⟩, by decide, by decide⟩
  · intro k w hk hw; obtain rfl : k = 0 := by omega
    cases hw; simp
  · intro k w hk; omega
  · intro k w hk hw; obtain rfl : k = 0 := by omega
    cases hw; simp [MemSize.lines]; omega

theorem test_meets_ACopyIsReadAndWrittenInTwoParts :
    let r1 : MemOp := ⟨.anchorReadFirst, 0xFFFF00, 20, []⟩
    let r2 : MemOp := ⟨.anchorReadSecond, 0xFFFF50, 5, []⟩
    let w1 : MemOp := ⟨.anchorWriteFirst, 0xFFFF00, 20, List.replicate 80 (some 0)⟩
    let on (x : AnchorOp) : State := { State.reset with anchors := { State.reset.anchors with op := some x } }
    (atPort (on (.readFirst .a)) .journal r1).inPort .journal .anchorReadFirst r1
      ∧ (atPort (on (.readSecond .a [] false)) .journal r2).inPort .journal .anchorReadSecond r2
      ∧ (atPort (on (.writeFirst .a 3 (List.replicate 20 0))) .journal w1).inPort .journal .anchorWriteFirst w1
      ∧ w1.cells.length ≤ 80 ∧ (List.replicate 20 (0 : Byte)).length = 20 :=
  ⟨atPort_inPort rfl rfl, atPort_inPort rfl rfl, atPort_inPort rfl rfl, by simp, by simp⟩

/-- An anchor of a 16 MiB part with sequence number n, phase OPEN or SCRUBBING. -/
def anchorOf (n : Word) (e : Word) (p : Phase) : Anchor := ⟨n, e, p, geom16, Setup.reset, 262144⟩

/-- A part at the completion of copy B, whose bytes came with the first part. -/
def selecting (a : Option Anchor) (b : List Byte) : State :=
  atPort { State.reset with
    anchors := { State.reset.anchors with heldA := a, op := some (.readSecond .b b false) } } .journal
    ⟨.anchorReadSecond, 0xFFFFD0, 0, []⟩

/-- With an operation of no words the bytes of copy B are those of its first part. -/
theorem test_meets_TheNewestCopyIsSelected (a : Option Anchor) (b : List Byte) :
    let op : MemOp := ⟨.anchorReadSecond, 0xFFFFD0, 0, []⟩
    (selecting a b).inPort .journal .anchorReadSecond op
      ∧ (selecting a b).anchors.op = some (.readSecond .b b false) ∧ (selecting a b).jc.op = .recovery
      ∧ a = (selecting a b).anchors.heldA
      ∧ readAnchor b false .m16 = readAnchor (b ++ (selecting a b).bytesRead op) (false || false)
          (selecting a b).memSize :=
  ⟨atPort_inPort rfl rfl, rfl, rfl, rfl, by simp [State.bytesRead, Mem.readBytes]; rfl⟩

set_option maxRecDepth 100000 in
/-- A copy of an anchor is VALID in its part, a blank one is not. -/
theorem test_copy_valid : readAnchor (anchorOf 4 1 .opened).bytes false .m16 = some (anchorOf 4 1 .opened)
    ∧ readAnchor (anchorOf 4 0 .scrubbing).bytes false .m16 = some (anchorOf 4 0 .scrubbing)
    ∧ readAnchor (List.replicate 100 0) false .m16 = none := by decide

/-- Sequence numbers for each row of R89's table. -/
theorem test_meets_TheNewestCopyIsSelected_rows :
    (0 : Word) = 4294967295 + 1 ∧ (4 : Word) = 3 + 1 ∧ ((3 : Word) ≠ 9 + 1 ∧ (9 : Word) ≠ 3 + 1)
      ∧ ((5 : Word) ≠ 5 + 1) := by decide

theorem test_meets_RecoveryLoadsTheNewestAnchor :
    (selecting none []).inReset = false ∧ (selecting none []).jc.working = some (Report.start .powerOn)
      ∧ (anchorOf 4 1 .opened).phase = .opened ∧ (anchorOf 4 0 .scrubbing).phase = .scrubbing
      ∧ 0 < (anchorOf 4 1 .opened).geom.count ∧ readAnchor [] false .m16 = none
      ∧ (selecting none []).store.geom = none := by decide

/-- A part whose anchor write has its second part at the memory port. -/
def writingAnchor (s : State) : State :=
  atPort { s with anchors := { s.anchors with op := some (.writeSecond .a 3) } } .journal
    ⟨.anchorWriteSecond, 0xFFFF50, 5, List.replicate 20 (some 0)⟩

theorem writingAnchor_inPort {s : State} (h : s.inReset = false) :
    (writingAnchor s).inPort .journal .anchorWriteSecond
      ⟨.anchorWriteSecond, 0xFFFF50, 5, List.replicate 20 (some 0)⟩ :=
  atPort_inPort h rfl

/-- The two ways a COMMIT completes. -/
theorem test_meets_ACommitCompletes :
    let s := writingAnchor (working active .committing .commit (some .advancing))
    let w := writingAnchor (working active .committing .commit (some .wrapAnchor))
    s.inReset = false ∧ s.anchors.op = some (.writeSecond .a 3) ∧ s.jc.op = .commit ∧ s.noneHeld
      ∧ s.jc.step = some .advancing ∧ s.jc.epoch ≠ 4294967295 ∧ w.jc.step = some .wrapAnchor
      ∧ (List.replicate 20 (some (0 : Byte))).length ≤ 20 :=
  ⟨rfl, rfl, rfl, ⟨by decide, by decide⟩, rfl, by decide, rfl, by simp⟩

theorem test_meets_AnAbortAndARecoveryCompleteAfterTheAdvance :
    let rb : Rollback := ⟨-1, 1, [], 0⟩
    let a := writingAnchor (working active .aborting .abort (some .advancing))
    let r := writingAnchor (working active .recovering .recovery (some .wrapAnchor))
    ({ a.jc with rollback := some rb } : Journal).rollback = some rb ∧ a.jc.op = .abort
      ∧ a.store.geom = some geom16 ∧ r.jc.op = .recovery ∧ r.jc.rollback = none
      ∧ ({ r.jc with working := some (Report.start .soft) } : Journal).working = some (Report.start .soft) := by
  decide

theorem test_meets_AnEpochWrapScrubsTheJournal :
    let s : State := writingAnchor (working { active with jc := { active.jc with epoch := 4294967295 } }
      .committing .commit (some .advancing))
    s.anchors.op = some (.writeSecond .a 3) ∧ s.jc.step = some .advancing ∧ s.jc.epoch = 4294967295
      ∧ s.jc.op ≠ .format ∧ s.jc.geom = some geom16 := by decide

/-- An APPLY under a normal fence, and one whose new mode ends a latched fence. -/
theorem test_meets_AnApplyCompletes :
    let s := writingAnchor (working active .applying .apply (some .applyAnchor))
    s.anchors.op = some (.writeSecond .a 3) ∧ s.jc.step = some .applyAnchor ∧ s.jc.op = .apply ∧ s.noneHeld
      ∧ ¬ (s.fence.state = .latched ∧ s.store.staged.mode = .level)
      ∧ (latched s).fence.state = .latched ∧ s.store.staged.mode = .level :=
  ⟨rfl, rfl, rfl, ⟨by decide, by decide⟩, by decide, rfl, rfl⟩

theorem test_meets_AFormatWritesBothCopiesAndCompletes :
    let s := writingAnchor (working active .formatting .format (some .firstAnchor))
    let t := writingAnchor (working active .formatting .format (some .secondAnchor))
    s.jc.op = .format ∧ s.eightWindows ∧ s.jc.step = some .firstAnchor ∧ t.jc.step = some .secondAnchor
      ∧ t.noneHeld :=
  ⟨rfl, ⟨rfl, rfl⟩, rfl, rfl, ⟨by decide, by decide⟩⟩

/-- The last slot of a scrub and the one before it, in a FORMAT and in a COMMIT. -/
theorem test_meets_AScrubGoesThroughEverySlot :
    let op : MemOp := ⟨.scrubWrite, 0, 20, List.replicate 80 (some 0)⟩
    let s := atPort (working active .formatting .format (some .scrubbing)) .journal op
    let t := atPort (working active .committing .commit (some .scrubbing)) .journal op
    s.inPort .journal .scrubWrite op ∧ op.cells.length ≤ 80
      ∧ ({ s.jc with scrub := some 14 } : Journal).scrub = some 14 ∧ 14 + 1 < geom16.count
      ∧ geom16.count ≤ 15 + 1 ∧ s.store.stagedGeom = geom16 ∧ s.jc.op = .format ∧ t.jc.op ≠ .format
      ∧ t.jc.geom = some geom16 ∧ s.eightWindows :=
  ⟨atPort_inPort rfl rfl, by simp, rfl, by decide, by decide, rfl, rfl, by decide, rfl, ⟨rfl, rfl⟩⟩

/-- A part that scans slot k. -/
def scanningAt (k : Nat) (o : LongOp) (x : Step) (ahead : Bool) (op : MemOp) : State :=
  let s := working active (if o = .recovery then .recovering else .aborting) o (some x)
  atPort { s with jc := { s.jc with
    scan := some ⟨k, ahead, 0⟩, working := some (Report.start .soft) } } .journal op

/-- The last slot, the one before it and the first, in a recovery and in an ABORT. -/
theorem test_meets_TheScanTakesASlot :
    let op : MemOp := ⟨.scanRead, 0, 20, []⟩
    let s := scanningAt 15 .recovery .scanning false op
    let t := scanningAt 0 .abort .rescanning false op
    s.inPort .journal .scanRead op ∧ s.jc.scan = some ⟨15, false, 0⟩ ∧ s.jc.geom = some geom16
      ∧ s.store.geom = some geom16 ∧ s.eightWindows ∧ s.jc.op = .recovery ∧ geom16.count ≤ 15 + 1
      ∧ s.jc.working = some (Report.start .soft) ∧ t.jc.op = .abort ∧ 14 + 1 < geom16.count :=
  ⟨atPort_inPort rfl rfl, rfl, rfl, rfl, ⟨rfl, rfl⟩, rfl, by decide, rfl, rfl, by decide⟩

set_option maxRecDepth 100000 in
/-- A slot of each class: the record of slot 3 and epoch 1 read as itself, for another slot and another epoch,
with its last byte changed, and with MERR; an EMPTY record. -/
theorem test_classes :
    let r := captureRecord 0 3 20 1 (List.replicate 64 0)
    let torn := r.set 79 1
    classify r false 3 1 = .current ∧ classify r false 4 1 = .foreign ∧ classify r false 3 2 = .otherEpoch
      ∧ classify torn false 3 1 = .checkFailed ∧ slotKind torn = 0x01 ∧ slotEpoch torn = 1 ∧ slotIndex torn = 3
      ∧ classify r true 3 1 = .unreadable ∧ classify (emptyRecord 3) false 3 1 = .emptySlot := by decide

set_option maxRecDepth 100000 in
/-- What a slot of memory holds is what its read brings. -/
theorem test_slot_read : let r := captureRecord 0 3 20 1 (List.replicate 64 0)
    ((Mem.writeCells [] 240 (wholeCells r)).readBytes 240 80) = r := by decide

theorem test_meets_TheLookAheadDecides :
    let op : MemOp := ⟨.lookAheadRead, 80, 20, []⟩
    let s := scanningAt 0 .recovery .scanning true op
    s.inPort .journal .lookAheadRead op ∧ s.jc.scan = some ⟨0, true, 0⟩ ∧ s.jc.geom = some geom16
      ∧ s.store.geom = some geom16 ∧ s.eightWindows ∧ s.jc.op = .recovery
      ∧ classify (s.bytesRead op) true 1 s.jc.epoch ≠ .current :=
  ⟨atPort_inPort rfl rfl, rfl, rfl, rfl, ⟨rfl, rfl⟩, rfl, by decide⟩

/-- A part that rolls back at slot 0. -/
def rollingBack (o : LongOp) (op : MemOp) : State :=
  let s := working active (if o = .recovery then .recovering else .aborting) o (some .rollingBack)
  atPort { s with jc := { s.jc with
    rollback := some ⟨0, 0, [], 0⟩, working := some (Report.start .soft) } } .journal op

/-- A rollback at slot 0, whose record is applicable, or its line field the last of the extent, or listed
already, or one too many. -/
theorem test_meets_TheRollbackTakesASlot :
    let r : MemOp := ⟨.rollbackRead, 0, 20, []⟩
    let w : MemOp := ⟨.lineWrite, 1280, 16, List.replicate 64 (some 0)⟩
    let s := rollingBack .recovery r
    let t := rollingBack .abort w
    s.inPort .journal .rollbackRead r ∧ t.inPort .journal .lineWrite w
      ∧ s.jc.rollback = some ⟨0, 0, [], 0⟩ ∧ s.jc.geom = some geom16 ∧ s.store.geom = some geom16
      ∧ s.eightWindows ∧ s.jc.op = .recovery ∧ t.jc.op = .abort ∧ (0 : Int) ≤ 0 ∧ r.words = 20
      ∧ w.cells.length ≤ 64
      ∧ (20 < s.memSize.lines - 4 ∧ ¬ (0 ≤ 20 ∧ 20 < 0 + (16 * 5 + 3) / 4)) ∧ 19 < 0 + (16 * 5 + 3) / 4
      ∧ (19 : Nat) ∈ [19] ∧ (19 : Nat) ∉ List.range 8 ∧ ¬ (List.range 8).length < 8 :=
  ⟨atPort_inPort rfl rfl, atPort_inPort rfl rfl, rfl, rfl, rfl, ⟨rfl, rfl⟩, rfl, rfl, by decide, rfl, by simp,
    by decide, by decide, by decide, by decide, by decide⟩

set_option maxRecDepth 100000 in
theorem test_meets_TheRecordsInMemoryReadBackAsWritten :
    let a := anchorOf 4 1 .opened
    a.geom.base < 4294967296 ∧ a.geom.count < 4294967296 ∧ a.setup.alert < 4294967296
      ∧ a.memLines < 4294967296 ∧ a.setup.windows.length = 8
      ∧ (∀ w ∈ a.setup.windows, w.first < 16777216 ∧ w.last < 4294967296)
      ∧ (List.replicate 100 (0 : Byte)).take 4 ≠ [0xE5, 0x91, 0x3C, 0x6A]
      ∧ (List.replicate 100 (0 : Byte)).length = 100
      ∧ fromLE ((List.replicate 100 (0 : Byte)).drop 96) ≠ (crc32 ((List.replicate 100 0).take 96)).toNat
      ∧ (List.replicate 100 (0 : Byte)).getD 12 0 = 0
      ∧ (∃ n, n < 8 ∧ 4 ≤ ((List.replicate 100 (4 : Byte)).getD (32 + 8 * n + 3) 0).toNat)
      ∧ 2 ≤ ((List.replicate 100 (2 : Byte)).getD 14 0).toNat := by
  refine ⟨by decide, by decide, by decide, by decide, by decide, by decide, by decide, by decide, by decide,
    by decide, ⟨7, by decide, by decide⟩, by decide⟩

/-- The edges of the fields. -/
theorem test_meets_TheRecordsInMemoryReadBackAsWritten_slots :
    (List.replicate 64 (0 : Byte)).length = 64 ∧ 255 < 256 ∧ 65535 < 65536 ∧ 4294967295 < 4294967296 := by
  decide

set_option maxRecDepth 100000 in
/-- A record of a kind that is not listed and one with its last byte changed; an EMPTY record with a window, a line,
an epoch and an image, and a CAPTURE record. -/
theorem test_meets_TheRecordsInMemoryReadBackAsWritten_classes :
    let good (bs : List Byte) : Bool :=
      decide (fromLE ((bs.drop 12).take 4) = (crc32 (bs.take 12 ++ bs.drop 16)).toNat)
    let r := slotBytes (slotHeader 0x03 0 3 20 1) (List.replicate 64 0)
    let torn := r.set 79 1
    let e := slotBytes (slotHeader 0x02 7 3 20 1) (List.replicate 64 9)
    let c := slotBytes (slotHeader 0x01 7 3 20 1) (List.replicate 64 9)
    r.length = 80 ∧ good r = true ∧ r.head? ≠ some 0x01 ∧ r.head? ≠ some 0x02 ∧ fromLE ((r.drop 2).take 2) ≠ 4
      ∧ torn.length = 80 ∧ good torn = false
      ∧ e.length = 80 ∧ good e = true ∧ e.head? = some 0x02 ∧ fromLE ((e.drop 2).take 2) = 3
      ∧ c.length = 80 ∧ good c = true ∧ c.head? = some 0x01 ∧ fromLE ((c.drop 2).take 2) = 3
      ∧ fromLE ((c.drop 8).take 4) = 1 := by decide

/-- A reserved line, a line two windows cover, and a line none covers. -/
theorem test_meets_ALineResolvesInOrder :
    let d : Decoder := ⟨[⟨20, 29, none⟩, ⟨25, 30, some .guarded⟩, ⟨20, 40, some .journaled⟩], .direct,
      some (0, 19), 262140⟩
    d.resolve 19 = .reserved ∧ d.resolve 262140 = .reserved ∧ d.resolve 25 = .covered .guarded 1
      ∧ d.resolve 24 = .covered .journaled 2 ∧ d.resolve 41 = .covered .direct 8 := by decide

/-- A host write that changes a byte. -/
theorem test_meets_MemoryChangesOnlyUnderAWrite :
    let op : MemOp := ⟨.hostWrite, 0, 1, hostCells [15] [0x44332211]⟩
    let s := atPort (hosting active .inMemory writeTxn) .portA op
    ∃ t, exec (.hostWriteComplete .a) s = .next t ∧ t.mem.read 0 ≠ s.mem.read 0 :=
  ⟨_, rfl, by decide⟩

/-- A decision that requests at an idle memory port, and a completed read with port B waiting. -/
theorem test_meets_TheArbiterGrantsInCycleOrder :
    let s := hosting active .deciding { writeTxn with addr := 1280 }
    let b : MemOp := ⟨.hostRead, 0, 1, []⟩
    let r : State := { hosting active .inMemory readTxn with
      arb := ⟨.portA, none, some b, none, none, some (.portA, readTxn.readOp)⟩ }
    (∃ t, exec (.policyDecision .a) s = .next t ∧ t.arb.current = some (.portA, { writeTxn with addr := 1280 }.writeOp)
        ∧ t.arb.current ≠ s.arb.current ∧ t.arb.pointer = .portA)
      ∧ ∃ t, exec (.hostReadComplete .a false) r = .next t ∧ t.arb.current = some (.portB, b)
        ∧ r.arb.request .portB ≠ none ∧ t.arb.pointer = .portB :=
  ⟨⟨_, rfl, by decide, by decide, by decide⟩, ⟨_, rfl, by decide, by decide, by decide⟩⟩

/-- A part with a decision at the front of its queue, and one that waits for it with a request of port B pending. -/
theorem test_meets_TheArbiterGrantsInCycleOrder_steps :
    let s : State := { hosting active .deciding readTxn with pending := [.policyDecision .a] }
    let w : State := { s with arb := { quiet with b := some readTxn.readOp } }
    (s.grantsMade ∧ ∃ t, step s = .next t) ∧ ¬ w.grantsMade ∧ w.awaitsRequest ∧ ∃ t, step w = .next t := by
  have h : ∀ x t : State, ∀ rest, x.pending = .policyDecision .a :: rest → (x.setPending rest).decided .a = some t →
      step x = .next (t.settle (x.setPending rest).arb) := by
    intro x t rest hx hd
    rw [step_next hx]
    simp only [exec, execPolicyDecision, hd, State.take]
  refine ⟨⟨fun _ r => by cases r <;> rfl, _, h _ _ _ rfl rfl⟩, fun hg => ?_, ⟨_, .portA, h _ _ _ rfl rfl, rfl, ?_⟩,
    _, h _ _ _ rfl rfl⟩
  · have := hg rfl .portB
    cases this
  · rw [settle_outstanding]
    decide

/-- R81: a write handed back beside a hit of the other port, with nothing pending before, is granted first or second. -/
theorem test_hit_beside_a_handed_back_write :
    let op : MemOp := ⟨.hostWrite, 1280, 1, hostCells [15] [0]⟩
    grantChoices quiet { quiet with a := some op, b := some op } = some (.portA, .portB)
      ∧ grantChoices quiet { quiet with pointer := .capture, a := some op, b := some op } = some (.portA, .portB)
      ∧ grantChoices quiet { quiet with pointer := .capture, a := some op, b := some op, journal := some op }
        = some (.journal, .journal) := by decide

/-- R174: the next command brings a request of its own where its effect makes one: the decision of a read, not that of
a refused one; an event on a part in reset brings none. -/
theorem test_what_brings_a_request :
    let s : State := { hosting active .deciding readTxn with pending := [.policyDecision .a] }
    s.requestNext = true
      ∧ ({ s with jc := { s.jc with state := .aborting } } : State).requestNext = false
      ∧ ({ s with pending := [.frameOpen] } : State).requestNext = false
      ∧ ({ s with pending := [] } : State).requestNext = false
      ∧ ({ s with pins := { s.pins with resetLow := true } } : State).requestNext = false := by decide

set_option maxRecDepth 100000 in
/-- R7, R70, R174: an APPLY completes and port B's held write, DIRECT now, requests memory; port A's decision of a write
that was GUARDED comes next, so that both may be pending at the grant. -/
theorem test_a_decision_beside_a_completion :
    let x : Txn := { writeTxn with addr := 1280 }
    let w := working (hosting active .deciding x) .applying .apply (some .applyAnchor)
    let s : State := { w with
      decoder := { w.decoder with default := .guarded }, portB := ⟨.held, some { x with wasHeld := true }, none⟩
      pending := [.policyDecision .a] }
    let t := s.completeApply
    s.requestNext = false ∧ quiet.arriveIdle t.arb = true ∧ t.asked.requestNext = true
      ∧ grantChoices t.arb ((t.takeDecision .a).arb) = some (.portA, .portB) := by decide

/-- R174: with the pointer at port B, a scan comes before port A's read that waits for the grant with it. -/
theorem test_a_scan_beside_a_read :
    let op := readTxn.readOp
    grantChoices { quiet with pointer := .portB, a := some op } { quiet with
      pointer := .portB, a := some op, journal := some op } = some (.journal, .journal) := by decide

/-- R172: an operation in progress stays beside the request of another port's decision. -/
theorem test_busy_port_stays :
    let s : State := { hosting active .deciding { writeTxn with addr := 1280 } with
      arb := serving .portB writeTxn.writeOp }
    ∃ t, exec (.policyDecision .a) s = .next t ∧ t.arb.current = s.arb.current ∧ t.arb.request .portA ≠ none :=
  ⟨_, rfl, rfl, by decide⟩

/-- With the pointer at port B the Capture Engine comes first and port B last. -/
theorem test_turns : Requester.portB.turn .capture = 0 ∧ Requester.portB.turn .journal = 1
    ∧ Requester.portB.turn .portA = 2 ∧ Requester.portB.turn .portB = 3 := by decide

/-- The part in ACTIVE has every invariant. -/
theorem active_sound : active.sound := by
  refine ⟨by decide, ⟨by decide, by decide, by decide⟩, ⟨by decide, by decide, by decide⟩,
    ⟨rfl, rfl, rfl, rfl, by decide⟩, (quiet_sound rfl).2, ⟨⟨by decide, by decide⟩, ⟨by decide, by decide⟩⟩,
    ⟨rfl, ⟨by decide, by decide⟩, fun p => by
      cases p <;> exact ⟨fun h => absurd h (by decide), fun h => absurd h (by decide)⟩⟩,
    ⟨⟨rfl, rfl, rfl, rfl, rfl, rfl, by decide⟩, rfl, by decide, fun _ h => (nomatch h)⟩,
    fun p => ⟨fun h => ?_, fun _ => by cases p <;> rfl, by cases p <;> decide, fun h => ?_⟩, by decide, rfl,
    fun _ h => (nomatch h), fun _ _ h => (nomatch h), by decide⟩ <;>
  exact absurd h (by cases p <;> decide)

/-- The part in ACTIVE keeps the laws of the reserved area and the journal. -/
theorem active_journals : active.geometrySound ∧ active.writesSound ∧ active.journalSound := by
  refine ⟨⟨⟨rfl, rfl⟩, ?_, fun _ => ⟨by decide, by decide, by decide⟩, by decide, fun _ h => (nomatch h),
    by decide, by decide⟩, ⟨?_, ?_⟩, Nat.zero_le _, ?_, fun _ h => (nomatch h), ?_,
    ⟨fun _ h => (nomatch h), fun _ _ h => (nomatch h), fun _ _ h => (nomatch h), fun _ _ h => (nomatch h)⟩,
    ⟨fun _ _ _ h => (nomatch h), fun _ h => (nomatch h)⟩, by decide, fun _ h => (nomatch h)⟩
  · intro g h; cases h; exact ⟨by decide, by decide, by decide⟩
  · intro p x h; cases p <;> cases h
  · rintro p x ⟨h, -⟩; cases p <;> cases h
  · intro g k h hk; exact absurd hk (Nat.not_lt_zero k)
  · rintro p x w ⟨h, -⟩; cases p <;> cases h

/-- A DIRECT write of one word at line 20, and the part in ACTIVE whose memory port serves it. -/
def directTxn : Txn := { writeTxn with addr := 1280, resolution := some (.covered .direct 8) }
def flying : State := atPort (hosting active .inMemory directTxn) .portA directTxn.writeOp

/-- A host write in progress beside a line of the reserved area. -/
theorem test_meets_NoHostWriteReachesTheReservedArea :
    flying.sound ∧ flying.geometrySound ∧ flying.writesSound
      ∧ flying.arb.current = some (.portA, directTxn.writeOp) ∧ directTxn.writeOp.purpose = .hostWrite
      ∧ flying.decoder.resolve (1279 / 64) = .reserved
      ∧ ∃ t, exec (.hostWriteComplete .a) flying = .next t := by
  refine ⟨⟨by decide, ⟨by decide, by decide, by decide⟩, ⟨by decide, by decide, by decide⟩,
    ⟨rfl, rfl, rfl, rfl, by decide⟩, ⟨?_, ?_⟩, ⟨⟨by decide, by decide⟩, ⟨by decide, by decide⟩⟩,
    ⟨rfl, ⟨by decide, by decide⟩, fun p => by
      cases p <;> exact ⟨fun h => absurd h (by decide), fun h => absurd h (by decide)⟩⟩,
    ⟨⟨rfl, rfl, rfl, rfl, rfl, rfl, by decide⟩, rfl, by decide, fun _ h => (nomatch h)⟩,
    ?_, by decide, rfl, fun _ h => (nomatch h), ?_, by decide⟩,
    ⟨⟨rfl, rfl⟩, active_journals.1.2.1, active_journals.1.2.2.1, by decide, fun _ h => (nomatch h), by decide,
      by decide⟩, ⟨?_, ?_⟩, rfl, rfl, by decide, _, rfl⟩
  · intro r op h; cases h; decide
  · intro r op h; cases r <;> cases h
  · intro p
    cases p
    · exact ⟨fun _ => ⟨_, rfl, rfl⟩, fun h => absurd rfl h, by decide, fun h => absurd h (by decide)⟩
    · exact ⟨fun h => absurd h (by decide), fun _ => rfl, by decide, fun h => absurd h (by decide)⟩
  · intro r op h; cases h; rfl
  · intro p x h; cases p <;> cases h; exact ⟨by decide, fun _ => ⟨rfl, rfl⟩⟩
  · rintro p x ⟨h, -⟩
    cases p <;> cases h
    exact ⟨rfl, .inr (.inl rfl), by decide, by decide, _, _, rfl, by decide⟩

/-- What the statements about every command ask of a state, at a command that answers a next state. -/
theorem test_meets_the_invariants :
    active.mem.wf ∧ active.sound ∧ active.workSound ∧ active.filterSound ∧ active.fenceSound
      ∧ active.copiesSound ∧ active.arbiterServes ∧ active.portsSound ∧ active.serviceSound
      ∧ active.geometrySound ∧ active.writesSound ∧ active.journalSound
      ∧ ∃ t, exec .pfailFall active = .next t ∧ t.fence.state = .fenced :=
  have h := active_sound
  have j := active_journals
  ⟨h.1, h, h.2.2.2.2.2.2.2.1, h.2.1, h.2.2.1, h.2.2.2.1, h.2.2.2.2.1, h.2.2.2.2.2.1, h.2.2.2.2.2.2.2.2, j.1, j.2.1,
    j.2.2, _, rfl, rfl⟩

/-- E goes to 0 at the start of a reset, and from 1 to 2 at the completion of a COMMIT's anchor. -/
theorem test_meets_TheEpochChangesOnlyAtItsEvents :
    let s := writingAnchor (working active .committing .commit (some .advancing))
    (active.workSound ∧ ∃ t, exec (.powerOnResetStart 0) active = .next t ∧ t.jc.epoch ≠ active.jc.epoch)
      ∧ s.workSound ∧ ∃ t, exec .anchorWriteComplete s = .next t ∧ t.jc.epoch ≠ s.jc.epoch :=
  ⟨⟨active_sound.2.2.2.2.2.2.2.1, _, rfl, by decide⟩,
    ⟨⟨rfl, rfl, rfl, by decide, rfl, ⟨_, rfl, rfl⟩, .inl rfl, by decide⟩, rfl, by decide, fun _ _ => rfl⟩,
    _, rfl, by decide⟩

/-- E goes from 0 to an anchor's at the selection. -/
theorem test_meets_TheEpochChangesOnlyAtItsEvents_recovery :
    let s := selecting (some (anchorOf 4 1 .opened)) []
    s.workSound ∧ ∃ t, exec (.anchorReadComplete false) s = .next t ∧ t.jc.epoch ≠ s.jc.epoch :=
  ⟨⟨⟨rfl, rfl, rfl, rfl, rfl, ⟨_, rfl, rfl⟩, rfl⟩, rfl, by decide, fun _ _ => rfl⟩, _, rfl, by decide⟩

end Sys2Proof.Machine.Tests
end

section
/-! PROOFS. The checks of R16: what the four operation commands answer, in the order of the table, and that a refusal
leaves the part as it is. -/
namespace Sys2Proof.Machine

open Sys2Proof

/-- A reply of a result and its data, which takes no SOFT_RESET (R159, R164). -/
def Reply.told (v : Result × List Byte) : Reply := ⟨v.1, v.2, false⟩

/-- The journal states in which check 4 of R16 lets the command of this code pass. -/
abbrev State.allowsOperation (s : State) (code : Byte) : Prop :=
  s.jc.state = .active ∨ (s.jc.state = .damaged ∧ code ≠ 0x13) ∨ (s.jc.state = .unformatted ∧ code = 0x12)

/-- Checks 5 to 7 of R16 for the command of this code: the staging image, fill, and the geometry. -/
def State.ownVerdict (s : State) (code : Byte) : Result × List Byte :=
  if (code = 0x12 ∨ code = 0x13) ∧ s.store.staging ≠ .ready then (.notReady, [])
  else if code = 0x12 ∧ s.jc.state = .active ∧ s.jc.fill ≠ 0 then (.notEmpty, beBytes 2 s.jc.fill)
  else if code = 0x13 ∧ s.jc.geom ≠ some s.store.stagedGeom then (.geometryChanged, [])
  else (.accepted, [])

/-- Checks 2 to 7 of R16 for the command of this code. -/
def State.operationVerdict (s : State) (code : Byte) : Result × List Byte :=
  if s.jc.op ≠ .none then (.busy, [s.jc.op.code])
  else if s.fence.state ≠ .normal then (.fenced, [s.fence.state.code])
  else if ¬ s.allowsOperation code then (.wrongState, [s.jc.state.code, s.fence.state.code])
  else s.ownVerdict code

/-- All checks of R16, the first of them the Management Port's (R158). -/
def State.frameVerdict (s : State) (code : Byte) (f : FrameTail) : Result × List Byte :=
  if goodCrc code f = false then (.frameError, [])
  else if f.args ≠ [] then (.invalidArgument, [])
  else s.operationVerdict code

/-- A block decides as the verdict says: it answers `v`, and it leaves the part as it is unless it accepts. -/
def State.decidedAs (s : State) (v : Result × List Byte) (answer : Reply × State) : Prop :=
  answer.1 = .told v ∧ (v.1 ≠ .accepted → answer.2 = s)

/-- A refusal is decided where nothing changes. -/
theorem decidedAs_refused (s : State) (v : Result × List Byte) : s.decidedAs v (.told v, s) :=
  ⟨rfl, fun _ => rfl⟩

/-- An acceptance is decided whatever it starts. -/
theorem decidedAs_accepted (s t : State) : s.decidedAs (.accepted, []) (.bare .accepted, t) :=
  ⟨rfl, fun h => absurd rfl h⟩

/-! ## Checks 2 to 7 (R16) -/

/-- Where one of checks 2 to 4 fails, its answer is the verdict (R16). -/
theorem operationCheck_refuses {s : State} {code : Byte} {l : List JournalState} {r : Reply}
    (hl : s.jc.state ∈ l ↔ s.allowsOperation code)
    (h : s.operationCheck l = some r) : s.decidedAs (s.operationVerdict code) (r, s) := by
  suffices hr : r = .told (s.operationVerdict code) from hr ▸ decidedAs_refused s _
  unfold State.operationCheck at h
  unfold State.operationVerdict
  split at h
  case isTrue hop => cases h; rw [if_pos hop]; rfl
  case isFalse hop =>
    rw [if_neg hop]
    split at h
    case isTrue hfence => cases h; rw [if_pos hfence]; rfl
    case isFalse hfence =>
      rw [if_neg hfence]
      split at h
      case isTrue hstate => cases h; rw [if_pos (mt hl.2 hstate)]; rfl
      case isFalse => cases h

/-- Where checks 2 to 4 pass, the command's own checks decide. -/
theorem operationVerdict_passed {s : State} {code : Byte} {l : List JournalState}
    (hl : s.jc.state ∈ l ↔ s.allowsOperation code)
    (h : s.operationCheck l = none) : s.operationVerdict code = s.ownVerdict code := by
  obtain ⟨hop, hfence, hstate⟩ := operationCheck_none.1 h
  unfold State.operationVerdict
  rw [if_neg (not_not.2 hop), if_neg (not_not.2 hfence), if_neg (not_not.2 (hl.1 hstate))]

/-- COMMIT and ABORT have no checks of their own. -/
theorem ownVerdict_none {s : State} {code : Byte} (hf : code ≠ 0x12) (ha : code ≠ 0x13) :
    s.ownVerdict code = (.accepted, []) := by
  unfold State.ownVerdict
  rw [if_neg fun h => h.1.elim hf ha, if_neg fun h => hf h.1, if_neg fun h => ha h.1]

theorem ownVerdict_format (s : State) : s.ownVerdict 0x12
    = if s.store.staging ≠ .ready then (.notReady, [])
      else if s.jc.state = .active ∧ s.jc.fill ≠ 0 then (.notEmpty, beBytes 2 s.jc.fill)
      else (.accepted, []) := by
  simp [State.ownVerdict]

theorem ownVerdict_apply (s : State) : s.ownVerdict 0x13
    = if s.store.staging ≠ .ready then (.notReady, [])
      else if s.jc.geom ≠ some s.store.stagedGeom then (.geometryChanged, [])
      else (.accepted, []) := by
  simp [State.ownVerdict]

/-- A block that makes checks 2 to 4 first, and then the command's own, decides as R16 says. -/
theorem decidedAs_operationVerdict {s : State} {code : Byte} (l : List JournalState) {answer : Reply × State}
    (hl : s.jc.state ∈ l ↔ s.allowsOperation code)
    (hfails : ∀ r, s.operationCheck l = some r → answer = (r, s))
    (hpasses : s.operationCheck l = none → s.decidedAs (s.ownVerdict code) answer) :
    s.decidedAs (s.operationVerdict code) answer := by
  cases h : s.operationCheck l with
  | some r => rw [hfails r h]; exact operationCheck_refuses hl h
  | none => rw [operationVerdict_passed hl h]; exact hpasses h

theorem commitCommand_decided (s : State) : s.decidedAs (s.operationVerdict 0x10) s.commitCommand := by
  refine decidedAs_operationVerdict [.active, .damaged] (by simp [State.allowsOperation])
    (fun r h => by simp only [State.commitCommand, h]) fun h => ?_
  rw [ownVerdict_none (by decide) (by decide)]
  simp only [State.commitCommand, h]
  exact decidedAs_accepted _ _

theorem abortCommand_decided (s : State) : s.decidedAs (s.operationVerdict 0x11) s.abortCommand := by
  refine decidedAs_operationVerdict [.active, .damaged] (by simp [State.allowsOperation])
    (fun r h => by simp only [State.abortCommand, h]) fun h => ?_
  rw [ownVerdict_none (by decide) (by decide)]
  simp only [State.abortCommand, h]
  exact decidedAs_accepted _ _

/-- FORMAT's own checks are the staging image and, in ACTIVE, fill (checks 5 and 6). -/
theorem formatCommand_decided (s : State) : s.decidedAs (s.operationVerdict 0x12) s.formatCommand := by
  refine decidedAs_operationVerdict [.unformatted, .active, .damaged] (by simp [State.allowsOperation]; tauto)
    (fun r h => by simp only [State.formatCommand, h]) fun h => ?_
  rw [ownVerdict_format]
  simp only [State.formatCommand, h]
  by_cases hstaging : s.store.staging ≠ .ready
  · rw [if_pos hstaging, if_pos hstaging]
    exact decidedAs_refused _ _
  · rw [if_neg hstaging, if_neg hstaging]
    by_cases hfill : s.jc.state = .active ∧ s.jc.fill ≠ 0
    · rw [if_pos hfill, if_pos hfill]
      exact decidedAs_refused _ _
    · rw [if_neg hfill, if_neg hfill]
      exact decidedAs_accepted _ _

/-- APPLY's own checks are the staging image and the geometry (checks 5 and 7). -/
theorem applyCommand_decided (s : State) : s.decidedAs (s.operationVerdict 0x13) s.applyCommand := by
  refine decidedAs_operationVerdict [.active] (by simp [State.allowsOperation])
    (fun r h => by simp only [State.applyCommand, h]) fun h => ?_
  rw [ownVerdict_apply]
  simp only [State.applyCommand, h]
  split_ifs with hstaging hgeom
  · exact decidedAs_refused _ _
  · exact decidedAs_refused _ _
  · exact decidedAs_accepted _ _

/-! ## Check 1 and the dispatch (R16, R158) -/

/-- The Management Port's checks stand before those of the block. -/
theorem dispatchResult_decided {code : Byte} {f : FrameTail} {s : State} {body : State → Reply × State}
    (h : s.decidedAs (s.operationVerdict code) (body s)) :
    s.decidedAs (s.frameVerdict code f) (dispatchResult code f (lengthIs f 0) body s) := by
  unfold dispatchResult State.frameVerdict
  rw [crcMatches_eq]
  cases goodCrc code f with
  | false => exact decidedAs_refused _ _
  | true =>
    by_cases hargs : f.args = []
    · simpa [hargs, lengthIs] using h
    · have hlen : lengthIs f 0 = false := by simpa [lengthIs] using hargs
      rw [hlen, if_neg (by simp), if_pos hargs]
      exact decidedAs_refused _ _

/-- A frame whose block decides as R16 says is answered with the verdict, and a refusal changes the frame alone. -/
theorem dispatch_decided {code : Byte} {f : FrameTail} {s : State} {body : State → Reply × State}
    (ht : s.takesBytes) (ha : s.arbiterSound) (h : s.decidedAs (s.operationVerdict code) (body s)) :
    ∃ t, dispatch code f (lengthIs f 0) body s = .next t
      ∧ t.frame = answered code f (s.frameVerdict code f).1 (s.frameVerdict code f).2
      ∧ ((s.frameVerdict code f).1 ≠ .accepted → t = { s with frame := t.frame }) := by
  obtain ⟨hreply, hrefused⟩ := dispatchResult_decided (f := f) h
  refine ⟨_, dispatch_taken ht, ?_, fun hr => ?_⟩
  · simp [State.occur, hreply, respondedFrame_eq, Reply.told]
  · simp only [State.occur, hreply, hrefused hr]
    rw [settle_unchanged ha (by simp)]
    rfl

/-- COMMIT, ABORT, FORMAT and APPLY run as the dispatch of a frame whose block decides by R16. -/
theorem exec_operationCommand {c : Instr} {code : Byte} {f : FrameTail} {s : State}
    (h : (c = .commit f ∧ code = 0x10) ∨ (c = .abort f ∧ code = 0x11) ∨ (c = .format f ∧ code = 0x12)
      ∨ (c = .apply f ∧ code = 0x13)) :
    ∃ body, exec c s = dispatch code f (lengthIs f 0) body s
      ∧ s.decidedAs (s.operationVerdict code) (body s) := by
  obtain ⟨rfl, rfl⟩ | ⟨rfl, rfl⟩ | ⟨rfl, rfl⟩ | ⟨rfl, rfl⟩ := h
  · exact ⟨_, rfl, commitCommand_decided s⟩
  · exact ⟨_, rfl, abortCommand_decided s⟩
  · exact ⟨_, rfl, formatCommand_decided s⟩
  · exact ⟨_, rfl, applyCommand_decided s⟩

/-- Settles O27: the verdict of R16 is the answer, by the decision of each command behind the shared dispatch. -/
theorem operationCommandsAreDecidedInOrder : Obligations.OperationCommandsAreDecidedInOrder := by
  intro c code f s ht ha hc
  obtain ⟨body, hexec, hbody⟩ := exec_operationCommand (s := s) hc
  obtain ⟨t, hnext, hframe, hrefused⟩ := dispatch_decided (f := f) ht ha hbody
  exact ⟨t, hexec.trans hnext, _, _, hframe, hrefused, rfl⟩

end Sys2Proof.Machine
end

section
/-! PROOFS. The resolution of a line (R36, R39, R40): the reserved area first, then the windows in the order of their
numbers, then the default policy. -/
namespace Sys2Proof.Machine

open Sys2Proof

/-! ## Windows (R35, R36) -/

theorem covers_iff {w : Window} {line : Nat} :
    w.covers line = true ↔ w.policy ≠ none ∧ w.first ≤ line ∧ line ≤ w.last := by
  simp [Window.covers, Option.isSome_iff_ne_none, and_assoc]

/-- The search ends at a window that covers the line. -/
theorem coveringWindow_cons_of_covers {w : Window} {ws : List Window} {n line : Nat} {p : Policy}
    (hc : w.covers line = true) (hp : w.policy = some p) : coveringWindow (w :: ws) n line = some (p, n) := by
  simp only [coveringWindow, hc, hp]

/-- The search goes past a window that does not cover the line. -/
theorem coveringWindow_cons_of_not_covers {w : Window} {ws : List Window} {n line : Nat}
    (hc : ¬ w.covers line = true) : coveringWindow (w :: ws) n line = coveringWindow ws (n + 1) line := by
  simp only [coveringWindow, hc]

/-- The lowest-numbered window that covers the line decides, whatever covers it behind (R36). -/
theorem coveringWindow_eq_some {ws : List Window} {k n line : Nat} {w : Window} {p : Policy}
    (hw : ws[k]? = some w) (hc : w.covers line = true) (hp : w.policy = some p)
    (hbefore : ∀ i v, i < k → ws[i]? = some v → ¬ v.covers line = true) :
    coveringWindow ws n line = some (p, n + k) := by
  induction ws generalizing k n with
  | nil => cases hw
  | cons v vs ih =>
    cases k with
    | zero =>
      cases hw
      exact coveringWindow_cons_of_covers hc hp
    | succ k =>
      have hrest : coveringWindow vs (n + 1) line = some (p, n + 1 + k) :=
        ih hw fun i u hi hu => hbefore (i + 1) u (Nat.succ_lt_succ hi) hu
      rw [coveringWindow_cons_of_not_covers (hbefore 0 v k.succ_pos rfl), hrest, Nat.add_right_comm, Nat.add_assoc]

theorem coveringWindow_eq_none {ws : List Window} {n line : Nat} (h : ∀ v ∈ ws, ¬ v.covers line = true) :
    coveringWindow ws n line = none := by
  induction ws generalizing n with
  | nil => rfl
  | cons v vs ih =>
    obtain ⟨hv, hvs⟩ := List.forall_mem_cons.1 h
    rw [coveringWindow_cons_of_not_covers hv, ih hvs]

/-! ## The decoder (R39, R40) -/

/-- The reserved area: the anchor area and the journal extent. -/
abbrev Decoder.reserves (d : Decoder) (line : Nat) : Prop :=
  d.anchorFirst ≤ line ∨ ∃ lo hi, d.extent = some (lo, hi) ∧ lo ≤ line ∧ line ≤ hi

theorem resolve_of_reserves {d : Decoder} {line : Nat} (h : d.reserves line) : d.resolve line = .reserved := by
  unfold Decoder.resolve
  obtain hanchor | ⟨lo, hi, hextent, hlo, hhi⟩ := h
  · rw [if_pos hanchor]
  · simp [hextent, hlo, hhi]

/-- Outside the reserved area, the policy and the window number are what the search of the windows finds, or the
default policy and 8. -/
theorem resolve_of_not_reserves {d : Decoder} {line : Nat} (h : ¬ d.reserves line) :
    d.resolve line = ((coveringWindow d.windows 0 line).elim (.covered d.default 8) fun c => .covered c.1 c.2) := by
  obtain ⟨hanchor, hextent⟩ := not_or.1 h
  unfold Decoder.resolve
  rw [if_neg hanchor, if_neg]
  · cases coveringWindow d.windows 0 line <;> rfl
  · cases hx : d.extent with
    | none => simp
    | some e => simpa using fun hlo hhi => hextent ⟨e.1, e.2, hx, hlo, hhi⟩

/-- Settles O49: the reserved area by its own test, the windows by induction on their list. -/
theorem aLineResolvesInOrder : Obligations.ALineResolvesInOrder := by
  intro d l
  refine ⟨resolve_of_reserves, fun n w p hr hw hc hp hbefore => ?_, fun hr hnone => ?_⟩
  · have hfound : coveringWindow d.windows 0 l = some (p, 0 + n) :=
      coveringWindow_eq_some hw (covers_iff.2 hc) hp fun k v hk hv => mt covers_iff.1 (hbefore k v hk hv)
    rw [resolve_of_not_reserves hr, hfound, Nat.zero_add]
    rfl
  · have hfound : coveringWindow d.windows 0 l = none :=
      coveringWindow_eq_none fun v hv => mt covers_iff.1 (hnone v hv)
    rw [resolve_of_not_reserves hr, hfound]
    rfl

end Sys2Proof.Machine
end

section
/-! PROOFS. The selection of the newest copy (R89): each row of the table as an equation of `newestOf`, and what the
end of the recovery reads leaves in the Anchor Unit. -/
namespace Sys2Proof.Machine

open Sys2Proof

/-! ## The rows of the table (R89) -/

/-- The two "+1" relations exclude each other: together they would make 2 equal to 0 modulo 2^32 (R89). -/
theorem ne_succ_of_eq_succ {v w : Word} (h : w = v + 1) : v ≠ w + 1 := by
  subst h
  bv_omega

theorem newestOf_eq_b_of_succ {x y : Anchor} (h : y.seq = x.seq + 1) : newestOf (some x) (some y) = some .b :=
  if_pos h

theorem newestOf_eq_a_of_succ {x y : Anchor} (h : x.seq = y.seq + 1) : newestOf (some x) (some y) = some .a :=
  (if_neg (ne_succ_of_eq_succ h)).trans (if_pos h)

/-- With neither "+1" relation the larger number decides, and a tie goes to copy A (R89). -/
theorem newestOf_by_size {x y : Anchor} (hy : y.seq ≠ x.seq + 1) (hx : x.seq ≠ y.seq + 1) :
    newestOf (some x) (some y) = if x.seq.toNat < y.seq.toNat then some .b else some .a :=
  (if_neg hy).trans (if_neg hx)

/-- The identity is NONE when no copy is VALID, and otherwise names a copy that is VALID (R89). -/
theorem newestOf_cases (a b : Option Anchor) :
    (newestOf a b = none ∧ a = none ∧ b = none)
      ∨ (newestOf a b = some .a ∧ ∃ x, a = some x) ∨ (newestOf a b = some .b ∧ ∃ y, b = some y) := by
  match a, b with
  | none, none => exact .inl ⟨rfl, rfl, rfl⟩
  | some x, none => exact .inr (.inl ⟨rfl, x, rfl⟩)
  | none, some y => exact .inr (.inr ⟨rfl, y, rfl⟩)
  | some x, some y =>
    by_cases hy : y.seq = x.seq + 1
    · exact .inr (.inr ⟨newestOf_eq_b_of_succ hy, y, rfl⟩)
    by_cases hx : x.seq = y.seq + 1
    · exact .inr (.inl ⟨newestOf_eq_a_of_succ hx, x, rfl⟩)
    rw [newestOf_by_size hy hx]
    split_ifs
    · exact .inr (.inr ⟨rfl, y, rfl⟩)
    · exact .inr (.inl ⟨rfl, x, rfl⟩)

/-- The newest sequence: the sequence number of the chosen copy, and 0 when the identity is NONE (R89). -/
def newestSeq (a b : Option Anchor) : Word :=
  match newestOf a b with
  | none => 0
  | some .a => a.elim 0 Anchor.seq
  | some .b => b.elim 0 Anchor.seq

theorem newestSeq_of_a {x : Anchor} {b : Option Anchor} (h : newestOf (some x) b = some .a) :
    newestSeq (some x) b = x.seq := by
  simp only [newestSeq, h, Option.elim]

theorem newestSeq_of_b {a : Option Anchor} {y : Anchor} (h : newestOf a (some y) = some .b) :
    newestSeq a (some y) = y.seq := by
  simp only [newestSeq, h, Option.elim]

/-! ## What the selection leaves in the Anchor Unit (R88, R89, R122) -/

/-- The scan of a recovery leaves the Anchor Unit alone: even a journal of no slots ends it at once with a clean start,
and no anchor is written (R125, R128). -/
theorem startScan_anchors {s : State} (h : s.jc.op = .recovery) (x : Step) :
    (s.startScan x).anchors = s.anchors := by
  unfold State.startScan State.scanTo
  dsimp only
  split
  · simp
  · simp [State.endScan, State.setStep, StopReason.isDamage, h]

/-- A copy that is chosen gives the newest identity and sequence, whether its phase starts the scan or the scrub (R89,
R123). -/
theorem selectAnchor_anchors_of_chosen {s : State} (h : s.jc.op = .recovery) {a b : Option Anchor} {k : Copy}
    {x : Anchor} (hn : newestOf a b = some k) (hx : (if k = .a then a else b) = some x) :
    (s.selectAnchor a b).anchors
      = { s.anchors with newest := some k, seq := x.seq, heldA := none, op := none } := by
  cases k
  all_goals
    obtain rfl := hx
    unfold State.selectAnchor
    cases hp : x.phase <;> simp only [hn, hp]
    case opened =>
      rw [startScan_anchors (by exact h)]
      rfl
    case scrubbing => rfl

/-- The selection in a recovery sets the newest identity and sequence by the table, and the Anchor Unit's work is done
(R89). -/
theorem selectAnchor_anchors {s : State} (h : s.jc.op = .recovery) (a b : Option Anchor) :
    (s.selectAnchor a b).anchors
      = { s.anchors with newest := newestOf a b, seq := newestSeq a b, heldA := none, op := none } := by
  obtain ⟨-, rfl, rfl⟩ | ⟨hn, x, rfl⟩ | ⟨hn, y, rfl⟩ := newestOf_cases a b
  · rfl
  · rw [selectAnchor_anchors_of_chosen h hn rfl, newestSeq_of_a hn, hn]
  · rw [selectAnchor_anchors_of_chosen h hn rfl, newestSeq_of_b hn, hn]

/-- The completion of a copy's second part is the test of the 100 bytes read, at the end of an event (R87, R88). -/
theorem exec_anchorReadComplete {s : State} {op : MemOp} {k : Copy} {first : List Byte} {m : Bool} (merr : Bool)
    (hport : s.inPort .journal .anchorReadSecond op) (hop : s.anchors.op = some (.readSecond k first m)) :
    exec (.anchorReadComplete merr) s = .next (State.settle s.arb
      (s.release.copyRead k (readAnchor (first ++ s.bytesRead op) (m || merr) s.memSize))) := by
  show execAnchorReadComplete merr s = _
  simp only [execAnchorReadComplete, inPort_inProgress hport, hop]
  rfl

/-- After the test of copy B the Anchor Unit holds its validity and the selection (R87, R89). -/
theorem copyRead_b_anchors {s : State} (h : s.jc.op = .recovery) (b : Option Anchor) :
    (s.copyRead .b b).anchors
      = { s.anchors with
          validB := if b = none then .invalid else .valid, newest := newestOf s.anchors.heldA b
          seq := newestSeq s.anchors.heldA b, heldA := none, op := none } := by
  simp only [State.copyRead]
  rw [selectAnchor_anchors (by exact h)]
  cases b <;> rfl

/-- Settles O37: the completion of copy B's second part makes the selection, and each row of the table is an equation
of `newestOf`. -/
theorem theNewestCopyIsSelected : Obligations.TheNewestCopyIsSelected := by
  intro s op merr m first a b hport hop hrecovery ha hb
  have hanchors := copyRead_b_anchors (s := s.release) (by simpa using hrecovery) b
  simp only [State.release_untouched, ← ha] at hanchors
  refine ⟨_, hb ▸ exec_anchorReadComplete merr hport hop, ?_⟩
  simp only [State.settle_untouched, hanchors]
  refine ⟨trivial, trivial, trivial, ?_, ?_, ?_, ?_⟩
  · rintro rfl rfl
    exact ⟨rfl, rfl⟩
  · rintro x rfl rfl
    exact ⟨rfl, rfl⟩
  · rintro y rfl rfl
    exact ⟨rfl, rfl⟩
  · rintro x y rfl rfl
    refine ⟨fun hy => ?_, fun hx => ?_, fun hy hx hle => ?_, fun hy hx hlt => ?_⟩
    · have hn := newestOf_eq_b_of_succ hy
      exact ⟨hn, newestSeq_of_b hn⟩
    · have hn := newestOf_eq_a_of_succ hx
      exact ⟨hn, newestSeq_of_a hn⟩
    · have hn := (newestOf_by_size hy hx).trans (if_neg hle.not_gt)
      exact ⟨hn, newestSeq_of_a hn⟩
    · have hn := (newestOf_by_size hy hx).trans (if_pos hlt)
      exact ⟨hn, newestSeq_of_b hn⟩

end Sys2Proof.Machine
end

section
/-! PROOFS. VALIDATE (R139): its window checks as the statement words them, its verdict as a chain of checks of which
the first failing one is reported, and what the command leaves for each verdict. -/
namespace Sys2Proof.Machine

open Sys2Proof

/-! ## The geometry checks (checks 1 and 2 of R139) -/

theorem countLegal_iff {g : Geometry} : g.countLegal = true ↔ 16 ≤ g.count ∧ g.count ≤ 49152 := by
  simp [Geometry.countLegal]

theorem fits_iff {m : MemSize} {g : Geometry} :
    g.fits m = true ↔ ¬ m.lines - 4 < g.base + g.extentLines := by
  simp [Geometry.fits]

/-- A journal of a legal slot count has lines. -/
theorem extentLines_pos {g : Geometry} (h : g.countLegal = true) : 0 < g.extentLines := by
  have hcount := countLegal_iff.1 h
  simp only [Geometry.extentLines]
  omega

/-! ## The window checks (checks 3 to 5 of R139) -/

theorem disordered_iff {w : Window} : w.disordered = true ↔ w.policy ≠ none ∧ w.last < w.first := by
  simp [Window.disordered, Option.isSome_iff_ne_none]

theorem outside_iff {m : MemSize} {w : Window} : w.outside m = true ↔ w.policy ≠ none ∧ m.lines ≤ w.last := by
  simp [Window.outside, Option.isSome_iff_ne_none]

/-- A range of lines meets a range that is not empty where it is no empty one itself and each begins before the other
ends. -/
theorem exists_common_line_iff {first last lo hi : Nat} (h : lo < hi) :
    (∃ l, first ≤ l ∧ l ≤ last ∧ lo ≤ l ∧ l < hi) ↔ first ≤ last ∧ first < hi ∧ lo ≤ last := by
  constructor
  · rintro ⟨l, hfirst, hlast, hlo, hhi⟩
    omega
  · rintro ⟨hfirst, hhi, hlo⟩
    exact ⟨max first lo, by omega⟩

theorem anchorFirst_lt_lines (m : MemSize) : m.anchorFirst < m.lines := by
  cases m <;> decide

/-- With a legal slot count, check 5 looks for a line of the window in the staged extent or the anchor area. -/
theorem reserved_iff {m : MemSize} {g : Geometry} (h : g.countLegal = true) {w : Window} :
    w.reserved m g = true ↔ w.policy ≠ none ∧ ∃ l, w.first ≤ l ∧ l ≤ w.last
      ∧ ((g.base ≤ l ∧ l < g.base + g.extentLines) ∨ (m.anchorFirst ≤ l ∧ l < m.lines)) := by
  have hextent : g.base < g.base + g.extentLines := Nat.lt_add_of_pos_right (extentLines_pos h)
  simp only [and_or_left, exists_or, exists_common_line_iff hextent, exists_common_line_iff (anchorFirst_lt_lines m)]
  simp [Window.reserved, Option.isSome_iff_ne_none, and_assoc, and_or_left]

/-- Where a check of the model is the statement's, the search finds the window that is the first to fail it. -/
theorem failingWindow_eq_some {ws : List Window} {check : Window → Bool} {fails : Window → Prop} {n : Nat}
    (hcheck : ∀ w, check w = true ↔ fails w) (h : firstFailing ws fails n) : failingWindow ws check = some n := by
  obtain ⟨⟨w, hw, hfails⟩, hbefore⟩ := h
  obtain ⟨hn, rfl⟩ := List.getElem?_eq_some_iff.1 hw
  refine List.findIdx?_eq_some_iff_getElem.2 ⟨hn, (hcheck _).2 hfails, fun k hk => ?_⟩
  exact mt (hcheck _).1 (hbefore k _ hk (List.getElem?_eq_getElem (hk.trans hn)))

theorem failingWindow_eq_none {ws : List Window} {check : Window → Bool} {fails : Window → Prop}
    (hcheck : ∀ w, check w = true ↔ fails w) (h : ∀ w ∈ ws, ¬ fails w) : failingWindow ws check = none :=
  List.findIdx?_eq_none_iff.2 fun w hw => Bool.eq_false_iff.2 (mt (hcheck w).1 (h w hw))

/-! ## The verdict on the staging image (R139) -/

theorem validateImage_of_not_countLegal {m : MemSize} {g : Geometry} {c : Setup} (h : ¬ g.countLegal = true) :
    validateImage m g c = some (1, none) := by
  simp [validateImage, h]

theorem validateImage_of_not_fits {m : MemSize} {g : Geometry} {c : Setup} (hc : g.countLegal = true)
    (h : ¬ g.fits m = true) : validateImage m g c = some (2, none) := by
  simp [validateImage, hc, h]

/-- Behind a legal geometry, checks 3 to 6 are made in order and the first that reports anything is the verdict. -/
theorem validateImage_of_legalGeometry {m : MemSize} {g : Geometry} {c : Setup} (hc : g.countLegal = true)
    (hf : g.fits m = true) :
    validateImage m g c = ((failingWindow c.windows Window.disordered).map fun n => (3, some n)).or
      (((failingWindow c.windows (Window.outside m)).map fun n => (4, some n)).or
        (((failingWindow c.windows (Window.reserved m g)).map fun n => (5, some n)).or
          (if c.alert ≤ g.count then none else some (6, none)))) := by
  simp only [validateImage, hc, hf]
  cases failingWindow c.windows Window.disordered with
  | some n => rfl
  | none =>
    cases failingWindow c.windows (Window.outside m) with
    | some n => rfl
    | none => cases failingWindow c.windows (Window.reserved m g) <;> rfl

/-! ## The command (R140, R158) -/

theorem stagingLocked_iff {s : State} : s.stagingLocked = true
    ↔ s.jc.state = .recovering ∨ s.jc.state = .applying ∨ s.jc.state = .formatting := by
  simp [State.stagingLocked]

theorem validate_of_locked {s : State} (h : s.stagingLocked = true) : s.validate = (s.busyReply, s) := if_pos h

theorem validate_of_failing {s : State} (hlocked : ¬ s.stagingLocked = true) {x : Nat × Option Nat}
    (h : validateImage s.memSize s.store.stagedGeom s.store.staged = some x) :
    s.validate
      = (⟨.invalidConfiguration, checkData x, false⟩, s.setStore { s.store with staging := .draft }) := by
  rw [State.validate, if_neg hlocked, h]

theorem validate_of_passing {s : State} (hlocked : ¬ s.stagingLocked = true)
    (h : validateImage s.memSize s.store.stagedGeom s.store.staged = none) :
    s.validate = (.ok [], s.setStore { s.store with staging := .ready }) := by
  rw [State.validate, if_neg hlocked, h]

/-- A well-formed VALIDATE frame is answered as the Configuration Store says, which requests nothing of the arbiter. -/
theorem exec_validate {f : FrameTail} {s : State} (ht : s.takesBytes) (ha : s.arbiterSound) (hargs : f.args = [])
    (hcrc : goodCrc 0x22 f = true) {r : Reply} {t : State} (h : s.validate = (r, t)) (harb : t.arb = s.arb) :
    exec (.validate f) s = .next { t with frame := answered 0x22 f r.result r.data r.soft } := by
  have hlength : lengthIs f 0 = true := by simp [lengthIs, hargs]
  exact dispatch_answers ht ha hcrc hlength h harb

/-- Settles O35: each clause is one outcome of the chain of checks, given to the command. -/
theorem validateReportsTheFirstFailingCheck : Obligations.ValidateReportsTheFirstFailingCheck := by
  intro f s ht ha hargs hcrc g c extent lines count beyond disordered outside reserved fails locked
  have hfails {x : Nat × Option Nat} (hl : ¬ locked) (hx : validateImage s.memSize g c = some x) :
      fails (checkData x) :=
    exec_validate ht ha hargs hcrc (validate_of_failing (mt stagingLocked_iff.1 hl) hx) rfl
  have hcount : g.countLegal = true ↔ ¬ count := countLegal_iff.trans not_not.symm
  have hfits : g.fits s.memSize = true ↔ ¬ beyond := fits_iff
  have hlegal (hc : ¬ count) (hb : ¬ beyond) := validateImage_of_legalGeometry (c := c) (hcount.2 hc) (hfits.2 hb)
  have hreserved (hc : ¬ count) (w : Window) : w.reserved s.memSize g = true ↔ reserved w :=
    reserved_iff (hcount.2 hc)
  refine ⟨fun hl => exec_validate ht ha hargs hcrc (validate_of_locked (stagingLocked_iff.2 hl)) rfl,
    fun hl hc => ?count, fun hl hc hb => ?extent, fun n hl hc hb h3 => ?disordered, fun n hl hc hb h3 h4 => ?outside,
    fun n hl hc hb h3 h4 h5 => ?reserved, fun hl hc hb h3 h4 h5 h6 => ?alert, fun hl hc hb h3 h4 h5 h6 => ?passes⟩
  case count => exact hfails hl (validateImage_of_not_countLegal (mt hcount.1 (not_not.2 hc)))
  case extent => exact hfails hl (validateImage_of_not_fits (hcount.2 hc) (mt hfits.1 (not_not.2 hb)))
  case disordered =>
    refine hfails (x := (3, some n)) hl ?_
    rw [hlegal hc hb, failingWindow_eq_some (fun _ => disordered_iff) h3]
    rfl
  case outside =>
    refine hfails (x := (4, some n)) hl ?_
    rw [hlegal hc hb, failingWindow_eq_none (fun _ => disordered_iff) h3,
      failingWindow_eq_some (fun _ => outside_iff) h4]
    rfl
  case reserved =>
    refine hfails (x := (5, some n)) hl ?_
    rw [hlegal hc hb, failingWindow_eq_none (fun _ => disordered_iff) h3,
      failingWindow_eq_none (fun _ => outside_iff) h4, failingWindow_eq_some (hreserved hc) h5]
    rfl
  case alert =>
    refine hfails (x := (6, none)) hl ?_
    rw [hlegal hc hb, failingWindow_eq_none (fun _ => disordered_iff) h3,
      failingWindow_eq_none (fun _ => outside_iff) h4, failingWindow_eq_none (hreserved hc) h5, if_neg h6.not_ge]
    rfl
  case passes =>
    refine exec_validate ht ha hargs hcrc (validate_of_passing (mt stagingLocked_iff.1 hl) ?_) rfl
    rw [hlegal hc hb, failingWindow_eq_none (fun _ => disordered_iff) h3,
      failingWindow_eq_none (fun _ => outside_iff) h4, failingWindow_eq_none (hreserved hc) h5, if_pos h6]
    rfl

end Sys2Proof.Machine
end

section
/-! PROOFS. STATUS (R161): its fields as the statement words them, and that the snapshot is all the command does. -/
namespace Sys2Proof.Machine

open Sys2Proof

/-- Of the staging image's states only READY is told as 0x01 (R161, R178). -/
theorem stagingCode_eq_ite (x : Staging) : x.code = if x = .ready then 0x01 else 0x00 := by
  cases x <;> rfl

/-- The twelve fields of the snapshot in their order and widths (R161, R178). -/
theorem statusData_eq (s : State) :
    s.statusData
      = [s.jc.state.code, s.jc.op.code] ++ beBytes 4 s.jc.epoch.toNat ++ beBytes 2 s.jc.fill
        ++ beBytes 2 s.reportedSlots ++ beBytes 2 s.filter.lines.length
        ++ [if s.filter.saturated then 0x01 else 0x00, s.fence.state.code, s.attn.pending.setWidth 8,
            s.attn.mask.setWidth 8, if s.store.staging = .ready then 0x01 else 0x00]
        ++ beBytes 4 s.memSize.lines := by
  rw [← stagingCode_eq_ite]
  rfl

/-- A well-formed STATUS frame is answered OK with the snapshot, whatever the journal state, and changes nothing else. -/
theorem exec_status {f : FrameTail} {s : State} (ht : s.takesBytes) (ha : s.arbiterSound) (hargs : f.args = [])
    (hcrc : goodCrc 0x01 f = true) :
    exec (.status f) s = .next { s with frame := answered 0x01 f .ok s.statusData } := by
  have hlength : lengthIs f 0 = true := by simp [lengthIs, hargs]
  exact dispatch_answers (r := .ok s.statusData) ht ha hcrc hlength rfl rfl

/-- Settles O11: the snapshot is the data of the answer, and its fields are those of R161. -/
theorem statusIsASnapshot : Obligations.StatusIsASnapshot := by
  intro f s ht ha hargs hcrc
  rw [exec_status ht ha hargs hcrc, statusData_eq]
  rfl

end Sys2Proof.Machine
end

section
/-! PROOFS. What a command can do to the part, said once for all 45 rows: the effect of each where it can be taken,
and what its row has checked. Every invariant is a case analysis over it. -/
namespace Sys2Proof.Machine

open Sys2Proof

/-- What the command `c` can do to the part `s`. The effects of an event are written before the arbiter's grant
(`State.settle`), as the meanings of Machine/ have them. -/
inductive State.Event (s : State) : Instr → State → Prop
  /-- A command that cannot be taken where it stands (log 2). -/
  | idles (c : Instr) : s.Event c s
  /-- A lasting reset follows an input (R118, R148, R156). -/
  | follows (c : Instr) (x : Pins) (hreset : s.inReset = true) (hlasts : (s.setPins x).inReset = true) :
      s.Event c (s.setPins x)
  /-- A power-on reset ends under RESET# low: the straps are sampled (R43). -/
  | samples (m : BitVec 3) (x : Pins) (hreset : s.inReset = true) (hlasts : (s.setPins x).inReset = true) :
      s.Event (.powerOnResetEnd m) ((s.sampleStraps m).setPins x)
  /-- A reset begins by a pin (R118). -/
  | begins (c : Instr) (why : StartCause) (cut : Nat) (x : Pins)
      (hc : c = .powerOnResetStart cut ∨ c = .resetPinLow cut) (hlasts : (s.setPins x).inReset = true) :
      s.Event c ((s.beginReset why cut).setPins x)
  /-- A reset ends (R118). -/
  | ends (c : Instr) (m : BitVec 3) (x : Pins) (hc : c = .powerOnResetEnd m ∨ c = .resetPinHigh m)
      (hreset : s.inReset = true) (hover : (s.setPins x).inReset = false) :
      s.Event c ((((s.sampleStraps m).setPins x).endReset).grantNow s.arb)
  /-- A SOFT_RESET begins and ends at the close of its frame (R157, R164). -/
  | softResets (cut : Nat) (hreset : s.inReset = false) (hdue : s.softResetDue = true) :
      s.Event (.frameClose cut)
        ((((s.setPins { s.pins with mcsLow := false }).beginReset .soft cut).endReset).grantNow s.arb)
  /-- A frame opens, closes or becomes TRAILING (R156, R157). -/
  | frames (c : Instr) (low : Bool) (k : Option Frame) (hreset : s.inReset = false) :
      s.Event c ((s.setPins { s.pins with mcsLow := low }).setFrame k)
  /-- PFAIL# falls (R149). -/
  | falls (hreset : s.inReset = false) :
      s.Event .pfailFall
        ((((s.setPins { s.pins with pfailLow := true }).changeFence .fenced).finishRetake).settle s.arb)
  /-- PFAIL# rises (R150). -/
  | rises (hreset : s.inReset = false) (hlow : s.pins.pfailLow = true) :
      s.Event .pfailRise ((s.setPins { s.pins with pfailLow := false }).pfailRises.settle s.arb)
  /-- A frame is answered, and nothing changes but the attention (R158 to R167). -/
  | answers (c : Instr) (x : Attention) (k : Option Frame) (hreset : s.inReset = false) :
      s.Event c (((s.setAttn x).setFrame k).settle s.arb)
  /-- A STAGE_WRITE answered OK (R137). -/
  | stages (f : FrameTail) (item : StageItem) (k : Option Frame) (hreset : s.inReset = false)
      (hlocked : s.stagingLocked = false) :
      s.Event (.stageWrite f) (((s.setStore (s.store.stage item)).setFrame k).settle s.arb)
  /-- A VALIDATE that was not refused (R140). -/
  | validates (f : FrameTail) (x : Staging) (k : Option Frame) (hreset : s.inReset = false)
      (hlocked : s.stagingLocked = false)
      (hready : x = .ready → validateImage s.memSize s.store.stagedGeom s.store.staged = none) :
      s.Event (.validate f) (((s.setStore { s.store with staging := x }).setFrame k).settle s.arb)
  /-- A RELEASE_FENCE answered OK (R151). -/
  | releases (f : FrameTail) (k : Option Frame) (hreset : s.inReset = false) (hop : s.jc.op = .none)
      (hmode : s.fence.mode = .latched) (hlatched : s.fence.state = .latched) :
      s.Event (.releaseFence f) ((((s.changeFence .normal).retakeAtFence s.fallNext).setFrame k).settle s.arb)
  /-- COMMIT is accepted in ACTIVE (R99). -/
  | commits (f : FrameTail) (k : Option Frame) (hreset : s.inReset = false) (hop : s.jc.op = .none)
      (hfence : s.fence.state = .normal) (hstate : s.jc.state = .active) :
      s.Event (.commit f) (((((s.accept .committing .commit).startDrain s.toDrain).finishRetake).setFrame k).settle s.arb)
  /-- COMMIT is accepted in DAMAGED (R104). -/
  | commitsDamaged (f : FrameTail) (k : Option Frame) (hreset : s.inReset = false) (hop : s.jc.op = .none)
      (hfence : s.fence.state = .normal) (hstate : s.jc.state = .damaged) :
      s.Event (.commit f) (((((s.accept .committing .commit).startAdvance).finishRetake).setFrame k).settle s.arb)
  /-- ABORT is accepted in ACTIVE (R108). -/
  | aborts (f : FrameTail) (k : Option Frame) (hreset : s.inReset = false) (hop : s.jc.op = .none)
      (hfence : s.fence.state = .normal) (hstate : s.jc.state = .active) :
      s.Event (.abort f) (((((s.accept .aborting .abort).startDrain s.toDrain).finishRetake).setFrame k).settle s.arb)
  /-- ABORT is accepted in DAMAGED (R110). -/
  | abortsDamaged (f : FrameTail) (k : Option Frame) (hreset : s.inReset = false) (hop : s.jc.op = .none)
      (hfence : s.fence.state = .normal) (hstate : s.jc.state = .damaged) :
      s.Event (.abort f) (((((s.accept .aborting .abort).startScan .rescanning).finishRetake).setFrame k).settle s.arb)
  /-- FORMAT is accepted (R144). -/
  | formats (f : FrameTail) (k : Option Frame) (hreset : s.inReset = false) (hop : s.jc.op = .none)
      (hfence : s.fence.state = .normal)
      (hstate : s.jc.state = .unformatted ∨ s.jc.state = .active ∨ s.jc.state = .damaged)
      (hready : s.store.staging = .ready) (hempty : s.jc.state = .active → s.jc.fill = 0) :
      s.Event (.format f)
        (((((s.accept .formatting .format).startDrain
            (if s.jc.state = .damaged then [] else s.toDrain)).finishRetake).setFrame k).settle s.arb)
  /-- APPLY is accepted (R141). -/
  | applies (f : FrameTail) (k : Option Frame) (hreset : s.inReset = false) (hop : s.jc.op = .none)
      (hfence : s.fence.state = .normal) (hstate : s.jc.state = .active) (hready : s.store.staging = .ready)
      (hgeom : s.jc.geom = some s.store.stagedGeom) :
      s.Event (.apply f)
        (((((s.accept .applying .apply).startDrain s.toDrain).finishRetake).setFrame k).settle s.arb)
  /-- An IDLE port takes a presentation (R61). -/
  | presents (p : Port) (q : Presentation) (hreset : s.inReset = false) (hidle : (s.port p).stage = .idle)
      (hwhole : wholePresentation q = true) :
      s.Event (.hostPresentation p q) (s.setPort p ⟨.deciding, some (presentedTxn q), none⟩)
  /-- A port takes its policy decision (R63). -/
  | decides (p : Port) (hreset : s.inReset = false) (hstage : (s.port p).stage = .deciding) :
      s.Event (.policyDecision p) ((s.takeDecision p).settle s.arb)
  /-- A port gives its response (R62). -/
  | responds (p : Port) (hreset : s.inReset = false) (hstage : (s.port p).stage = .responding) :
      s.Event (.hostResponse p) (s.setPort p ⟨.idle, none, (s.port p).txn.map Txn.response⟩)
  /-- A host read completes (R65). -/
  | readCompletes (p : Port) (merr : Bool) (op : MemOp) (hreset : s.inReset = false)
      (hcur : s.arb.current = some (portRequester p, op)) (hpurpose : op.purpose = .hostRead) :
      s.Event (.hostReadComplete p merr)
        (((s.release.hostReadDone p op merr).portResponded p).settle s.arb)
  /-- A host write completes (R68). -/
  | writeCompletes (p : Port) (op : MemOp) (hreset : s.inReset = false)
      (hcur : s.arb.current = some (portRequester p, op)) (hpurpose : op.purpose = .hostWrite) :
      s.Event (.hostWriteComplete p)
        ((((s.release.storeCells op).hostWriteDone p).portResponded p).settle s.arb)
  /-- The Capture Engine takes the head of its queue (R76). -/
  | takesEntry (e : Entry) (rest : List Entry) (hreset : s.inReset = false) (hengine : s.engine = ⟨e :: rest, none⟩) :
      s.Event .captureTake ((s.takeEntry e rest).settle s.arb)
  /-- A line read completes (R77). -/
  | lineRead (merr : Bool) (op : MemOp) (e : Entry) (hreset : s.inReset = false)
      (hcur : s.arb.current = some (.capture, op)) (hpurpose : op.purpose = .lineRead)
      (hengine : s.engine.current = some ⟨e, .reading⟩) :
      s.Event (.lineReadComplete merr) ((s.release.lineReadDone e op merr).settle s.arb)
  /-- A reservation is answered (R27, R78). -/
  | reserves (e : Entry) (image : List Byte) (hreset : s.inReset = false)
      (hengine : s.engine.current = some ⟨e, .reserving image⟩) :
      s.Event .slotReservation ((s.reserve e image).settle s.arb)
  /-- A record write completes (R28, R79). -/
  | recordWritten (op : MemOp) (e : Entry) (n : Nat) (hreset : s.inReset = false)
      (hcur : s.arb.current = some (.capture, op)) (hpurpose : op.purpose = .recordWrite)
      (hengine : s.engine.current = some ⟨e, .writing n⟩) :
      s.Event .recordWriteComplete
        ((((s.release.storeCells op).setPhase e (.inserting n)).countRecord).settle s.arb)
  /-- The filter takes a line (R52, R79). -/
  | inserts (e : Entry) (n : Nat) (hreset : s.inReset = false)
      (hengine : s.engine.current = some ⟨e, .inserting n⟩) :
      s.Event .filterInsertion
        ((((s.setFilter (s.filter.take e.line)).setPhase e .captured).handBack e.port).settle s.arb)
  /-- The first part of a copy has been read (R85). -/
  | firstPartRead (merr : Bool) (op : MemOp) (k : Copy) (hreset : s.inReset = false)
      (hcur : s.arb.current = some (.journal, op)) (hpurpose : op.purpose = .anchorReadFirst)
      (hunit : s.anchors.op = some (.readFirst k)) :
      s.Event (.anchorReadFirstPartComplete merr)
        (((s.release.setAnchors { s.anchors with op := some (.readSecond k (s.bytesOf op) merr) }).request
          .journal (.reads .anchorReadSecond (secondPart k s.memSize) 5)).settle s.arb)
  /-- A copy has been read (R87 to R89). -/
  | copyRead (merr : Bool) (op : MemOp) (k : Copy) (first : List Byte) (m : Bool) (hreset : s.inReset = false)
      (hcur : s.arb.current = some (.journal, op)) (hpurpose : op.purpose = .anchorReadSecond)
      (hunit : s.anchors.op = some (.readSecond k first m)) :
      s.Event (.anchorReadComplete merr)
        ((s.release.copyRead k (readAnchor (first ++ s.bytesOf op) (m || merr) s.memSize)).settle s.arb)
  /-- The first part of a copy has been written (R85, R91). -/
  | firstPartWritten (op : MemOp) (k : Copy) (seq : Word) (rest : List Byte) (hreset : s.inReset = false)
      (hcur : s.arb.current = some (.journal, op)) (hpurpose : op.purpose = .anchorWriteFirst)
      (hunit : s.anchors.op = some (.writeFirst k seq rest)) :
      s.Event .anchorWriteFirstPartComplete
        ((((s.release.storeCells op).setAnchors { s.anchors with op := some (.writeSecond k seq) }).request
          .journal (.writes .anchorWriteSecond (secondPart k s.memSize) rest)).settle s.arb)
  /-- A copy has been written (R91). -/
  | copyWritten (op : MemOp) (k : Copy) (seq : Word) (hreset : s.inReset = false)
      (hcur : s.arb.current = some (.journal, op)) (hpurpose : op.purpose = .anchorWriteSecond)
      (hunit : s.anchors.op = some (.writeSecond k seq)) :
      s.Event .anchorWriteComplete
        ((((s.release.storeCells op).setAnchors
          { s.anchors with newest := some k, seq := seq, op := none }).anchorDone).settle s.arb)
  /-- A slot has been scrubbed (R33). -/
  | scrubs (op : MemOp) (n : Nat) (hreset : s.inReset = false)
      (hcur : s.arb.current = some (.journal, op)) (hpurpose : op.purpose = .scrubWrite)
      (hscrub : s.jc.scrub = some n) :
      s.Event .scrubWriteComplete (((s.release.storeCells op).scrubbed n).settle s.arb)
  /-- The scan has read a slot (R125 to R127). -/
  | scans (merr : Bool) (op : MemOp) (sc : Scan) (hreset : s.inReset = false)
      (hcur : s.arb.current = some (.journal, op)) (hpurpose : op.purpose = .scanRead)
      (hscan : s.jc.scan = some sc) :
      s.Event (.scanReadComplete merr) ((s.release.scanSlot sc.pos (s.bytesOf op) merr).settle s.arb)
  /-- The look-ahead has read its slot (R127). -/
  | looksAhead (merr : Bool) (op : MemOp) (sc : Scan) (hreset : s.inReset = false)
      (hcur : s.arb.current = some (.journal, op)) (hpurpose : op.purpose = .lookAheadRead)
      (hscan : s.jc.scan = some sc) :
      s.Event (.lookAheadReadComplete merr) ((s.release.lookAheadSlot sc (s.bytesOf op) merr).settle s.arb)
  /-- The rollback has read a slot (R105, R106). -/
  | rollsBack (merr : Bool) (op : MemOp) (rb : Rollback) (hreset : s.inReset = false)
      (hcur : s.arb.current = some (.journal, op)) (hpurpose : op.purpose = .rollbackRead)
      (hroll : s.jc.rollback = some rb) :
      s.Event (.rollbackReadComplete merr) ((s.release.rollbackSlot rb (s.bytesOf op) merr).settle s.arb)
  /-- A line has been written back (R105). -/
  | restores (op : MemOp) (rb : Rollback) (hreset : s.inReset = false)
      (hcur : s.arb.current = some (.journal, op)) (hpurpose : op.purpose = .lineWrite)
      (hroll : s.jc.rollback = some rb) :
      s.Event .rollbackLineWriteComplete
        (((s.release.storeCells op).rollTo { rb with applied := rb.applied + 1, pos := rb.pos - 1 }).settle s.arb)

/-! ## Every command does one of these -/

/-- An operation in progress stands at the memory port, outside a reset (R171, R172). -/
theorem inProgress_eq_some {s : State} {r : Requester} {p : Purpose} {op : MemOp} (h : s.inProgress r p = some op) :
    s.inReset = false ∧ s.arb.current = some (r, op) ∧ op.purpose = p := by
  unfold State.inProgress at h
  split at h
  · cases h
  · rename_i hr
    split at h
    · split at h
      · rename_i hc hp
        obtain ⟨rfl, rfl⟩ := hp
        cases h
        exact ⟨by simpa using hr, hc, rfl⟩
      · cases h
    · cases h

/-- Only a frame that takes bytes outside a reset is dispatched (R156). -/
theorem inReset_of_receiving {s : State} (h : s.receiving = true) : s.inReset = false := by
  have := (Bool.and_eq_true _ _).mp h
  simpa using this.1

/-- A dispatch leaves the part as it is, or answers the frame: by the Management Port's checks, which change nothing,
or by the owning block (R156, R158). -/
theorem dispatch_cases {code : Byte} {f : FrameTail} {l : Bool} {body : State → Reply × State} {s t : State}
    (h : dispatch code f l body s = .next t) :
    t = s ∨ (s.inReset = false ∧ ∃ k, t = (s.setFrame k).settle s.arb ∨ t = ((body s).2.setFrame k).settle s.arb) := by
  unfold dispatch State.take State.dispatched at h
  by_cases hr : s.receiving = true
  · right
    refine ⟨inReset_of_receiving hr, ?_⟩
    simp only [hr, if_true] at h
    cases h
    unfold dispatchResult
    split
    · exact ⟨_, .inl rfl⟩
    · split
      · exact ⟨_, .inl rfl⟩
      · exact ⟨_, .inr rfl⟩
  · left
    simp only [hr, Bool.false_eq_true, if_false] at h
    cases h
    rfl

/-- An answer that leaves all but the attention as it is (R158). -/
theorem Event_of_answer {c : Instr} {code : Byte} {f : FrameTail} {l : Bool} {body : State → Reply × State}
    {s t : State} (h : dispatch code f l body s = .next t) (hb : ∃ x, (body s).2 = s.setAttn x) : s.Event c t := by
  obtain rfl | ⟨hr, k, rfl | rfl⟩ := dispatch_cases h
  · exact .idles c
  · exact .answers c s.attn k hr
  · obtain ⟨x, hx⟩ := hb
    rw [hx]
    exact .answers c x k hr

/-- What the owning block does, as an event, where it does more than to answer (R158). -/
theorem Event_of_dispatch {c : Instr} {code : Byte} {f : FrameTail} {l : Bool} {body : State → Reply × State}
    {s t : State} (h : dispatch code f l body s = .next t)
    (hb : s.inReset = false → (body s).2 = s ∨ ∀ k, s.Event c (((body s).2.setFrame k).settle s.arb)) :
    s.Event c t := by
  obtain rfl | ⟨hr, k, rfl | rfl⟩ := dispatch_cases h
  · exact .idles c
  · exact .answers c s.attn k hr
  · obtain he | hk := hb hr
    · rw [he]; exact .answers c s.attn k hr
    · exact hk k

/-- Outside RECOVERING these commands do what they name (R160). -/
theorem unlessRecovering_attn {s : State} {r : Reply} {x : Attention} :
    ∃ y, (s.unlessRecovering (r, s.setAttn x)).2 = s.setAttn y := by
  unfold State.unlessRecovering
  split
  · exact ⟨s.attn, rfl⟩
  · exact ⟨x, rfl⟩

/-- One of the resets' commands (R118). -/
theorem Event_of_reset {c : Instr} {s t : State} (h : exec c s = .next t)
    (hc : (∃ cut, c = .powerOnResetStart cut) ∨ (∃ m, c = .powerOnResetEnd m) ∨ (∃ cut, c = .resetPinLow cut)
      ∨ ∃ m, c = .resetPinHigh m) : s.Event c t := by
  obtain ⟨cut, rfl⟩ | ⟨m, rfl⟩ | ⟨cut, rfl⟩ | ⟨m, rfl⟩ := hc
  · change execPowerOnResetStart cut s = _ at h
    unfold execPowerOnResetStart at h
    split at h <;> cases h
    · exact .idles _
    · exact .begins _ .powerOn cut _ (.inl rfl) (by simp [State.inReset])
  · change execPowerOnResetEnd m s = _ at h
    unfold execPowerOnResetEnd at h
    split at h
    · cases h; exact .idles _
    · rename_i hl
      have hl : s.pins.supplyLow = true := by simpa using hl
      split at h <;> cases h
      · rename_i hr
        exact .samples m _ (by simp [State.inReset, hl]) (by simp [State.inReset, hr])
      · rename_i hr
        exact .ends _ m _ (.inl rfl) (by simp [State.inReset, hl]) (by simpa [State.inReset] using hr)
  · change execResetPinLow cut s = _ at h
    unfold execResetPinLow at h
    split at h
    · cases h; exact .idles _
    · split at h <;> cases h
      · rename_i hl
        exact .follows _ _ (by simp [State.inReset, hl]) (by simp [State.inReset])
      · exact .begins _ .resetPin cut _ (.inr rfl) (by simp [State.inReset])
  · change execResetPinHigh m s = _ at h
    unfold execResetPinHigh at h
    split at h
    · cases h; exact .idles _
    · rename_i hr
      have hr : s.pins.resetLow = true := by simpa using hr
      split at h <;> cases h
      · rename_i hl
        exact .follows _ _ (by simp [State.inReset, hr]) (by simp [State.inReset, hl])
      · rename_i hl
        exact .ends _ m _ (.inr rfl) (by simp [State.inReset, hr]) (by simpa [State.inReset] using hl)

/-- An edge of PFAIL# (R149, R150). -/
theorem Event_of_pfail {c : Instr} {s t : State} (h : exec c s = .next t) (hc : c = .pfailFall ∨ c = .pfailRise) :
    s.Event c t := by
  obtain rfl | rfl := hc
  · change execPfailFall s = _ at h
    unfold execPfailFall at h
    split at h
    · cases h; exact .idles _
    · split at h <;> cases h
      · rename_i hr
        exact .follows _ _ hr hr
      · rename_i hr
        exact .falls (by simpa using hr)
  · change execPfailRise s = _ at h
    unfold execPfailRise at h
    split at h
    · cases h; exact .idles _
    · rename_i hl
      have hl : s.pins.pfailLow = true := by simpa using hl
      split at h
      · cases h
        rename_i hr
        exact .follows _ _ hr hr
      · rename_i hr
        have hr : s.inReset = false := by simpa using hr
        simp only [State.take, State.pfailRisen, hl, hr, Bool.not_false, and_self, if_true] at h
        cases h
        exact .rises hr hl

/-- An edge of MCS#, or the end of a response (R156, R157). -/
theorem Event_of_frame {c : Instr} {s t : State} (h : exec c s = .next t)
    (hc : c = .frameOpen ∨ (∃ cut, c = .frameClose cut) ∨ c = .responseSentInFull) : s.Event c t := by
  obtain rfl | ⟨cut, rfl⟩ | rfl := hc
  · change execFrameOpen s = _ at h
    unfold execFrameOpen at h
    split at h
    · cases h; exact .idles _
    · split at h <;> cases h
      · rename_i hr
        exact .follows _ _ hr hr
      · rename_i hr
        exact .frames _ true _ (by simpa using hr)
  · change execFrameClose cut s = _ at h
    unfold execFrameClose at h
    split at h
    · cases h; exact .idles _
    · split at h
      · cases h
        rename_i hr
        exact .follows _ _ hr hr
      · rename_i hr
        have hr : s.inReset = false := by simpa using hr
        split at h <;> cases h
        · rename_i hd
          exact .softResets cut hr hd
        · exact .frames _ false _ hr
  · change execResponseSentInFull s = _ at h
    unfold execResponseSentInFull at h
    split at h
    · split at h <;> cases h
      · rename_i hp
        exact .frames _ s.pins.mcsLow _ (by simpa using hp.2)
      · exact .idles _
    · cases h; exact .idles _

/-- A command of a management frame that starts no operation (R158). -/
theorem Event_of_command {c : Instr} {s t : State} {f : FrameTail} (h : exec c s = .next t)
    (hc : c = .status f ∨ c = .stageWrite f ∨ c = .stageRead f ∨ c = .validate f ∨ c = .releaseFence f
      ∨ c = .readReport f ∨ c = .readLastOp f ∨ c = .readFault f ∨ c = .clearFault f ∨ c = .ackAttention f
      ∨ c = .setAttentionMask f ∨ c = .softReset f ∨ ∃ code, c = .unknownCommand code f) : s.Event c t := by
  obtain rfl | rfl | rfl | rfl | rfl | rfl | rfl | rfl | rfl | rfl | rfl | rfl | ⟨code, rfl⟩ := hc
  · exact Event_of_answer h ⟨s.attn, rfl⟩
  · refine Event_of_dispatch h fun hr => ?_
    unfold State.stageWrite
    split
    · exact .inl rfl
    · split
      · exact .inl rfl
      · rename_i hl
        exact .inr fun k => .stages f _ k hr (by simpa using hl)
  · refine Event_of_answer h ⟨s.attn, ?_⟩
    unfold State.stageRead
    split
    · rfl
    · split <;> rfl
  · refine Event_of_dispatch h fun hr => ?_
    unfold State.validate
    split
    · exact .inl rfl
    · rename_i hl
      have hl : s.stagingLocked = false := by simpa using hl
      split
      · rename_i hv
        exact .inr fun k => .validates f _ k hr hl fun _ => hv
      · exact .inr fun k => .validates f _ k hr hl (by simp)
  · refine Event_of_dispatch h fun hr => ?_
    unfold State.releaseFence
    split
    · exact .inl rfl
    · rename_i ho
      split
      · exact .inl rfl
      · rename_i hm
        simp only [ne_eq, not_or, Decidable.not_not] at ho hm
        exact .inr fun k => .releases f k hr ho hm.1 hm.2
  · exact Event_of_answer h (unlessRecovering_attn (x := s.attn))
  · exact Event_of_answer h (unlessRecovering_attn (x := s.attn))
  · exact Event_of_answer h (unlessRecovering_attn (x := s.attn))
  · exact Event_of_answer h unlessRecovering_attn
  · refine Event_of_answer h ?_
    unfold State.ackAttention
    split
    · exact ⟨s.attn, rfl⟩
    · exact unlessRecovering_attn
  · refine Event_of_answer h ?_
    unfold State.setAttentionMask
    split
    · exact ⟨s.attn, rfl⟩
    · exact unlessRecovering_attn
  · refine Event_of_answer h ⟨s.attn, ?_⟩
    unfold State.softReset
    split <;> rfl
  · change execUnknownCommand code f s = _ at h
    unfold execUnknownCommand at h
    split at h
    · cases h; exact .idles _
    · exact Event_of_answer h ⟨s.attn, rfl⟩

/-- One of the four operation commands (R16). -/
theorem Event_of_operation {c : Instr} {s t : State} {f : FrameTail} (h : exec c s = .next t)
    (hc : c = .commit f ∨ c = .abort f ∨ c = .format f ∨ c = .apply f) : s.Event c t := by
  obtain rfl | rfl | rfl | rfl := hc
  · refine Event_of_dispatch (body := State.commitCommand) h fun hr => ?_
    unfold State.commitCommand
    split
    · exact .inl rfl
    · rename_i hk
      obtain ⟨hop, hfence, hstate⟩ := operationCheck_none.mp hk
      have hstate : s.jc.state = .active ∨ s.jc.state = .damaged := by simpa using hstate
      obtain ha | hd := hstate
      · simp only [ha, reduceCtorEq, if_false]
        exact .inr fun k => .commits f k hr hop hfence ha
      · simp only [hd, if_true]
        exact .inr fun k => .commitsDamaged f k hr hop hfence hd
  · refine Event_of_dispatch (body := State.abortCommand) h fun hr => ?_
    unfold State.abortCommand
    split
    · exact .inl rfl
    · rename_i hk
      obtain ⟨hop, hfence, hstate⟩ := operationCheck_none.mp hk
      have hstate : s.jc.state = .active ∨ s.jc.state = .damaged := by simpa using hstate
      obtain ha | hd := hstate
      · simp only [ha, reduceCtorEq, if_false]
        exact .inr fun k => .aborts f k hr hop hfence ha
      · simp only [hd, if_true]
        exact .inr fun k => .abortsDamaged f k hr hop hfence hd
  · refine Event_of_dispatch (body := State.formatCommand) h fun hr => ?_
    unfold State.formatCommand
    split
    · exact .inl rfl
    · rename_i hk
      obtain ⟨hop, hfence, hstate⟩ := operationCheck_none.mp hk
      split
      · exact .inl rfl
      · rename_i hready
        split
        · exact .inl rfl
        · rename_i hempty
          exact .inr fun k => .formats f k hr hop hfence (by simpa using hstate) (by simpa using hready)
            (by simpa using hempty)
  · refine Event_of_dispatch (body := State.applyCommand) h fun hr => ?_
    unfold State.applyCommand
    split
    · exact .inl rfl
    · rename_i hk
      obtain ⟨hop, hfence, hstate⟩ := operationCheck_none.mp hk
      split
      · exact .inl rfl
      · rename_i hready
        split
        · exact .inl rfl
        · rename_i hgeom
          exact .inr fun k => .applies f k hr hop hfence (by simpa using hstate) (by simpa using hready)
            (by simpa using hgeom)

/-- An event of a host port (R61, R62, R63, R65, R68). -/
theorem Event_of_port {c : Instr} {s t : State} {p : Port} (h : exec c s = .next t)
    (hc : (∃ q, c = .hostPresentation p q) ∨ c = .policyDecision p ∨ c = .hostResponse p
      ∨ (∃ merr, c = .hostReadComplete p merr) ∨ c = .hostWriteComplete p) : s.Event c t := by
  obtain ⟨q, rfl⟩ | rfl | rfl | ⟨merr, rfl⟩ | rfl := hc
  · change execHostPresentation p q s = _ at h
    unfold execHostPresentation at h
    split at h <;> cases h
    · rename_i hq
      obtain ⟨hidle, hr, hw⟩ := hq
      exact .presents p q (by simpa using hr) hidle hw
    · exact .idles _
  · change execPolicyDecision p s = _ at h
    unfold execPolicyDecision State.take State.decided at h
    by_cases hd : (s.port p).stage = .deciding ∧ (!s.inReset) = true
    · rw [if_pos hd] at h
      cases h
      exact .decides p (by simpa using hd.2) hd.1
    · rw [if_neg hd] at h
      cases h
      exact .idles _
  · change execHostResponse p s = _ at h
    unfold execHostResponse at h
    split at h <;> cases h
    · rename_i hq
      exact .responds p (by simpa using hq.2) hq.1
    · exact .idles _
  · change execHostReadComplete p merr s = _ at h
    unfold execHostReadComplete at h
    split at h <;> cases h
    · exact .idles _
    · rename_i op ho
      obtain ⟨hr, hcur, hpurpose⟩ := inProgress_eq_some ho
      exact .readCompletes p merr op hr hcur hpurpose
  · change execHostWriteComplete p s = _ at h
    unfold execHostWriteComplete at h
    split at h <;> cases h
    · exact .idles _
    · rename_i op ho
      obtain ⟨hr, hcur, hpurpose⟩ := inProgress_eq_some ho
      exact .writeCompletes p op hr hcur hpurpose

/-- An event of the Capture Engine (R76 to R79). -/
theorem Event_of_capture {c : Instr} {s t : State} (h : exec c s = .next t)
    (hc : c = .captureTake ∨ (∃ merr, c = .lineReadComplete merr) ∨ c = .slotReservation
      ∨ c = .recordWriteComplete ∨ c = .filterInsertion) : s.Event c t := by
  obtain rfl | ⟨merr, rfl⟩ | rfl | rfl | rfl := hc
  · change execCaptureTake s = _ at h
    unfold execCaptureTake State.take at h
    split at h <;> cases h
    · rename_i u hu
      unfold State.captureTaken at hu
      split at hu <;> cases hu
      rename_i e rest hr hcur hqueue
      exact .takesEntry e rest hr (by rw [← hcur, ← hqueue])
    · exact .idles _
  · change execLineReadComplete merr s = _ at h
    unfold execLineReadComplete at h
    split at h <;> cases h
    · rename_i op e ho he
      obtain ⟨hr, hcur, hpurpose⟩ := inProgress_eq_some ho
      exact .lineRead merr op e hr hcur hpurpose he
    · exact .idles _
  · change execSlotReservation s = _ at h
    unfold execSlotReservation State.take at h
    split at h <;> cases h
    · rename_i u hu
      unfold State.slotReserved at hu
      split at hu <;> cases hu
      rename_i e image hr he
      exact .reserves e image hr he
    · exact .idles _
  · change execRecordWriteComplete s = _ at h
    unfold execRecordWriteComplete at h
    split at h <;> cases h
    · rename_i op e n ho he
      obtain ⟨hr, hcur, hpurpose⟩ := inProgress_eq_some ho
      exact .recordWritten op e n hr hcur hpurpose he
    · exact .idles _
  · change execFilterInsertion s = _ at h
    unfold execFilterInsertion State.take at h
    split at h <;> cases h
    · rename_i u hu
      unfold State.lineInserted at hu
      split at hu <;> cases hu
      rename_i e n hr he
      exact .inserts e n hr he
    · exact .idles _

/-- A completion of the Anchor Unit (R87 to R91). -/
theorem Event_of_anchor {c : Instr} {s t : State} (h : exec c s = .next t)
    (hc : (∃ merr, c = .anchorReadFirstPartComplete merr) ∨ (∃ merr, c = .anchorReadComplete merr)
      ∨ c = .anchorWriteFirstPartComplete ∨ c = .anchorWriteComplete) : s.Event c t := by
  obtain ⟨merr, rfl⟩ | ⟨merr, rfl⟩ | rfl | rfl := hc
  · change execAnchorReadFirstPartComplete merr s = _ at h
    unfold execAnchorReadFirstPartComplete at h
    split at h <;> cases h
    · rename_i op k ho hu
      obtain ⟨hr, hcur, hpurpose⟩ := inProgress_eq_some ho
      exact .firstPartRead merr op k hr hcur hpurpose hu
    · exact .idles _
  · change execAnchorReadComplete merr s = _ at h
    unfold execAnchorReadComplete at h
    split at h <;> cases h
    · rename_i op k first m ho hu
      obtain ⟨hr, hcur, hpurpose⟩ := inProgress_eq_some ho
      exact .copyRead merr op k first m hr hcur hpurpose hu
    · exact .idles _
  · change execAnchorWriteFirstPartComplete s = _ at h
    unfold execAnchorWriteFirstPartComplete at h
    split at h <;> cases h
    · rename_i op k seq rest ho hu
      obtain ⟨hr, hcur, hpurpose⟩ := inProgress_eq_some ho
      exact .firstPartWritten op k seq rest hr hcur hpurpose hu
    · exact .idles _
  · change execAnchorWriteComplete s = _ at h
    unfold execAnchorWriteComplete at h
    split at h <;> cases h
    · rename_i op k seq ho hu
      obtain ⟨hr, hcur, hpurpose⟩ := inProgress_eq_some ho
      exact .copyWritten op k seq hr hcur hpurpose hu
    · exact .idles _

/-- A completion of the scrub, the scan or the rollback (R33, R105, R125). -/
theorem Event_of_journal {c : Instr} {s t : State} (h : exec c s = .next t)
    (hc : c = .scrubWriteComplete ∨ (∃ merr, c = .scanReadComplete merr) ∨ (∃ merr, c = .lookAheadReadComplete merr)
      ∨ (∃ merr, c = .rollbackReadComplete merr) ∨ c = .rollbackLineWriteComplete) : s.Event c t := by
  obtain rfl | ⟨merr, rfl⟩ | ⟨merr, rfl⟩ | ⟨merr, rfl⟩ | rfl := hc
  · change execScrubWriteComplete s = _ at h
    unfold execScrubWriteComplete at h
    split at h <;> cases h
    · rename_i op n ho hn
      obtain ⟨hr, hcur, hpurpose⟩ := inProgress_eq_some ho
      exact .scrubs op n hr hcur hpurpose hn
    · exact .idles _
  · change execScanReadComplete merr s = _ at h
    unfold execScanReadComplete at h
    split at h <;> cases h
    · rename_i op sc ho hsc
      obtain ⟨hr, hcur, hpurpose⟩ := inProgress_eq_some ho
      exact .scans merr op sc hr hcur hpurpose hsc
    · exact .idles _
  · change execLookAheadReadComplete merr s = _ at h
    unfold execLookAheadReadComplete at h
    split at h <;> cases h
    · rename_i op sc ho hsc
      obtain ⟨hr, hcur, hpurpose⟩ := inProgress_eq_some ho
      exact .looksAhead merr op sc hr hcur hpurpose hsc
    · exact .idles _
  · change execRollbackReadComplete merr s = _ at h
    unfold execRollbackReadComplete at h
    split at h <;> cases h
    · rename_i op rb ho hrb
      obtain ⟨hr, hcur, hpurpose⟩ := inProgress_eq_some ho
      exact .rollsBack merr op rb hr hcur hpurpose hrb
    · exact .idles _
  · change execRollbackLineWriteComplete s = _ at h
    unfold execRollbackLineWriteComplete at h
    split at h <;> cases h
    · rename_i op rb ho hrb
      obtain ⟨hr, hcur, hpurpose⟩ := inProgress_eq_some ho
      exact .restores op rb hr hcur hpurpose hrb
    · exact .idles _

/-- Every command does one of these (log 2, log 28). -/
theorem Event_of_exec {c : Instr} {s t : State} (h : exec c s = .next t) : s.Event c t := by
  cases c with
  | powerOnResetStart cut => exact Event_of_reset h (.inl ⟨cut, rfl⟩)
  | powerOnResetEnd m => exact Event_of_reset h (.inr (.inl ⟨m, rfl⟩))
  | resetPinLow cut => exact Event_of_reset h (.inr (.inr (.inl ⟨cut, rfl⟩)))
  | resetPinHigh m => exact Event_of_reset h (.inr (.inr (.inr ⟨m, rfl⟩)))
  | pfailFall => exact Event_of_pfail h (.inl rfl)
  | pfailRise => exact Event_of_pfail h (.inr rfl)
  | frameOpen => exact Event_of_frame h (.inl rfl)
  | frameClose cut => exact Event_of_frame h (.inr (.inl ⟨cut, rfl⟩))
  | responseSentInFull => exact Event_of_frame h (.inr (.inr rfl))
  | commit f | abort f | format f | apply f => exact Event_of_operation (f := f) h (by simp)
  | status f | stageWrite f | stageRead f | validate f | releaseFence f | readReport f | readLastOp f | readFault f
  | clearFault f | ackAttention f | setAttentionMask f | softReset f | unknownCommand _ f =>
    exact Event_of_command (f := f) h (by simp)
  | hostPresentation p _ | policyDecision p | hostResponse p | hostReadComplete p _ | hostWriteComplete p =>
    exact Event_of_port (p := p) h (by simp)
  | captureTake | lineReadComplete _ | slotReservation | recordWriteComplete | filterInsertion =>
    exact Event_of_capture h (by simp)
  | anchorReadFirstPartComplete _ | anchorReadComplete _ | anchorWriteFirstPartComplete | anchorWriteComplete =>
    exact Event_of_anchor h (by simp)
  | scrubWriteComplete | scanReadComplete _ | lookAheadReadComplete _ | rollbackReadComplete _
  | rollbackLineWriteComplete => exact Event_of_journal h (by simp)

end Sys2Proof.Machine
end

section
/-! PROOFS. What the effects of the rows leave alone: for each, the fields of State it does not touch. -/
namespace Sys2Proof.Machine

@[simp] theorem endReset_untouched (s : State) :
    (s.endReset).pins = s.pins ∧ (s.endReset).memSize = s.memSize ∧ (s.endReset).cause = s.cause ∧
    (s.endReset).filter = s.filter ∧ (s.endReset).engine = s.engine ∧ (s.endReset).store = s.store ∧
    (s.endReset).decoder = s.decoder ∧ (s.endReset).attn = s.attn ∧ (s.endReset).portA = s.portA ∧
    (s.endReset).portB = s.portB ∧ (s.endReset).mem = s.mem ∧ (s.endReset).free = s.free ∧
    (s.endReset).pending = s.pending := by
  simp [State.endReset]

@[simp] theorem changeFence_untouched (s : State) (x : FenceState) :
    (s.changeFence x).pins = s.pins ∧ (s.changeFence x).memSize = s.memSize ∧
    (s.changeFence x).cause = s.cause ∧ (s.changeFence x).jc = s.jc ∧ (s.changeFence x).filter = s.filter ∧
    (s.changeFence x).engine = s.engine ∧ (s.changeFence x).anchors = s.anchors ∧
    (s.changeFence x).store = s.store ∧ (s.changeFence x).decoder = s.decoder ∧
    (s.changeFence x).frame = s.frame ∧ (s.changeFence x).portA = s.portA ∧ (s.changeFence x).portB = s.portB ∧
    (s.changeFence x).arb = s.arb ∧ (s.changeFence x).mem = s.mem ∧ (s.changeFence x).free = s.free ∧
    (s.changeFence x).pending = s.pending := by
  simp [State.changeFence]

@[simp] theorem pfailRises_untouched (s : State) :
    (s.pfailRises).pins = s.pins ∧ (s.pfailRises).memSize = s.memSize ∧ (s.pfailRises).cause = s.cause ∧
    (s.pfailRises).jc = s.jc ∧ (s.pfailRises).filter = s.filter ∧ (s.pfailRises).anchors = s.anchors ∧
    (s.pfailRises).store = s.store ∧ (s.pfailRises).decoder = s.decoder ∧ (s.pfailRises).frame = s.frame ∧
    (s.pfailRises).mem = s.mem ∧ (s.pfailRises).pending = s.pending ∧
    (s.pfailRises).arb.current = s.arb.current ∧ (s.pfailRises).arb.journal = s.arb.journal ∧
    (s.pfailRises).arb.capture = s.arb.capture ∧ (s.pfailRises).arb.pointer = s.arb.pointer := by
  unfold State.pfailRises
  split <;> simp

@[simp] theorem hostReadDone_untouched (s : State) (p : Port) (op : MemOp) (merr : Bool) :
    (s.hostReadDone p op merr).pins = s.pins ∧ (s.hostReadDone p op merr).memSize = s.memSize ∧
    (s.hostReadDone p op merr).cause = s.cause ∧ (s.hostReadDone p op merr).jc = s.jc ∧
    (s.hostReadDone p op merr).filter = s.filter ∧ (s.hostReadDone p op merr).engine = s.engine ∧
    (s.hostReadDone p op merr).anchors = s.anchors ∧ (s.hostReadDone p op merr).store = s.store ∧
    (s.hostReadDone p op merr).decoder = s.decoder ∧ (s.hostReadDone p op merr).fence = s.fence ∧
    (s.hostReadDone p op merr).frame = s.frame ∧ (s.hostReadDone p op merr).arb = s.arb ∧
    (s.hostReadDone p op merr).mem = s.mem ∧ (s.hostReadDone p op merr).free = s.free ∧
    (s.hostReadDone p op merr).pending = s.pending := by
  unfold State.hostReadDone
  split
  · simp
  · split <;> simp

@[simp] theorem hostWriteDone_untouched (s : State) (p : Port) :
    (s.hostWriteDone p).pins = s.pins ∧ (s.hostWriteDone p).memSize = s.memSize ∧
    (s.hostWriteDone p).cause = s.cause ∧ (s.hostWriteDone p).jc = s.jc ∧
    (s.hostWriteDone p).filter = s.filter ∧ (s.hostWriteDone p).anchors = s.anchors ∧
    (s.hostWriteDone p).store = s.store ∧ (s.hostWriteDone p).decoder = s.decoder ∧
    (s.hostWriteDone p).fence = s.fence ∧ (s.hostWriteDone p).attn = s.attn ∧
    (s.hostWriteDone p).frame = s.frame ∧ (s.hostWriteDone p).arb = s.arb ∧ (s.hostWriteDone p).mem = s.mem ∧
    (s.hostWriteDone p).free = s.free ∧ (s.hostWriteDone p).pending = s.pending := by
  unfold State.hostWriteDone
  split <;> simp

@[simp] theorem setPhase_untouched (s : State) (e : Entry) (ph : EnginePhase) :
    (s.setPhase e ph).pins = s.pins ∧ (s.setPhase e ph).memSize = s.memSize ∧
    (s.setPhase e ph).cause = s.cause ∧ (s.setPhase e ph).jc = s.jc ∧ (s.setPhase e ph).filter = s.filter ∧
    (s.setPhase e ph).anchors = s.anchors ∧ (s.setPhase e ph).store = s.store ∧
    (s.setPhase e ph).decoder = s.decoder ∧ (s.setPhase e ph).fence = s.fence ∧
    (s.setPhase e ph).attn = s.attn ∧ (s.setPhase e ph).frame = s.frame ∧ (s.setPhase e ph).portA = s.portA ∧
    (s.setPhase e ph).portB = s.portB ∧ (s.setPhase e ph).arb = s.arb ∧ (s.setPhase e ph).mem = s.mem ∧
    (s.setPhase e ph).free = s.free ∧ (s.setPhase e ph).pending = s.pending := by
  simp [State.setPhase]

@[simp] theorem takeEntry_untouched (s : State) (e : Entry) (rest : List Entry) :
    (s.takeEntry e rest).pins = s.pins ∧ (s.takeEntry e rest).memSize = s.memSize ∧
    (s.takeEntry e rest).cause = s.cause ∧ (s.takeEntry e rest).jc = s.jc ∧
    (s.takeEntry e rest).filter = s.filter ∧ (s.takeEntry e rest).anchors = s.anchors ∧
    (s.takeEntry e rest).store = s.store ∧ (s.takeEntry e rest).decoder = s.decoder ∧
    (s.takeEntry e rest).fence = s.fence ∧ (s.takeEntry e rest).attn = s.attn ∧
    (s.takeEntry e rest).frame = s.frame ∧ (s.takeEntry e rest).mem = s.mem ∧
    (s.takeEntry e rest).free = s.free ∧ (s.takeEntry e rest).pending = s.pending ∧
    (s.takeEntry e rest).arb.current = s.arb.current ∧ (s.takeEntry e rest).arb.journal = s.arb.journal ∧
    (s.takeEntry e rest).arb.pointer = s.arb.pointer := by
  unfold State.takeEntry
  split <;> simp [State.request, Arbiter.setRequest]

@[simp] theorem refuseEntry_untouched (s : State) (e : Entry) (why : Reason) :
    (s.refuseEntry e why).pins = s.pins ∧ (s.refuseEntry e why).memSize = s.memSize ∧
    (s.refuseEntry e why).cause = s.cause ∧ (s.refuseEntry e why).decoder = s.decoder ∧
    (s.refuseEntry e why).fence = s.fence ∧ (s.refuseEntry e why).frame = s.frame ∧
    (s.refuseEntry e why).mem = s.mem ∧ (s.refuseEntry e why).pending = s.pending := by
  unfold State.refuseEntry
  dsimp only
  split <;> simp

@[simp] theorem lineReadDone_untouched (s : State) (e : Entry) (op : MemOp) (merr : Bool) :
    (s.lineReadDone e op merr).pins = s.pins ∧ (s.lineReadDone e op merr).memSize = s.memSize ∧
    (s.lineReadDone e op merr).cause = s.cause ∧ (s.lineReadDone e op merr).decoder = s.decoder ∧
    (s.lineReadDone e op merr).fence = s.fence ∧ (s.lineReadDone e op merr).frame = s.frame ∧
    (s.lineReadDone e op merr).mem = s.mem ∧ (s.lineReadDone e op merr).pending = s.pending := by
  unfold State.lineReadDone
  split <;> simp

@[simp] theorem reserve_untouched (s : State) (e : Entry) (image : List Byte) :
    (s.reserve e image).pins = s.pins ∧ (s.reserve e image).memSize = s.memSize ∧
    (s.reserve e image).cause = s.cause ∧ (s.reserve e image).decoder = s.decoder ∧
    (s.reserve e image).fence = s.fence ∧ (s.reserve e image).frame = s.frame ∧
    (s.reserve e image).mem = s.mem ∧ (s.reserve e image).pending = s.pending := by
  unfold State.reserve
  split <;> simp

@[simp] theorem countRecord_untouched (s : State) :
    (s.countRecord).pins = s.pins ∧ (s.countRecord).memSize = s.memSize ∧ (s.countRecord).cause = s.cause ∧
    (s.countRecord).filter = s.filter ∧ (s.countRecord).engine = s.engine ∧
    (s.countRecord).anchors = s.anchors ∧ (s.countRecord).store = s.store ∧
    (s.countRecord).decoder = s.decoder ∧ (s.countRecord).fence = s.fence ∧ (s.countRecord).frame = s.frame ∧
    (s.countRecord).portA = s.portA ∧ (s.countRecord).portB = s.portB ∧ (s.countRecord).arb = s.arb ∧
    (s.countRecord).mem = s.mem ∧ (s.countRecord).free = s.free ∧ (s.countRecord).pending = s.pending := by
  unfold State.countRecord
  dsimp only
  split <;> simp

@[simp] theorem copyRead_untouched (s : State) (k : Copy) (a : Option Anchor) :
    (s.copyRead k a).pins = s.pins ∧ (s.copyRead k a).memSize = s.memSize ∧ (s.copyRead k a).cause = s.cause ∧
    (s.copyRead k a).engine = s.engine ∧ (s.copyRead k a).frame = s.frame ∧ (s.copyRead k a).portA = s.portA ∧
    (s.copyRead k a).portB = s.portB ∧ (s.copyRead k a).mem = s.mem ∧ (s.copyRead k a).free = s.free ∧
    (s.copyRead k a).pending = s.pending := by
  unfold State.copyRead
  split <;> simp

@[simp] theorem anchorDone_untouched (s : State) :
    (s.anchorDone).pins = s.pins ∧ (s.anchorDone).memSize = s.memSize ∧ (s.anchorDone).cause = s.cause ∧
    (s.anchorDone).frame = s.frame ∧ (s.anchorDone).mem = s.mem ∧ (s.anchorDone).pending = s.pending := by
  unfold State.anchorDone
  split
  · split <;> simp
  all_goals simp

@[simp] theorem scrubbed_untouched (s : State) (n : Nat) :
    (s.scrubbed n).pins = s.pins ∧ (s.scrubbed n).memSize = s.memSize ∧ (s.scrubbed n).cause = s.cause ∧
    (s.scrubbed n).filter = s.filter ∧ (s.scrubbed n).engine = s.engine ∧ (s.scrubbed n).store = s.store ∧
    (s.scrubbed n).decoder = s.decoder ∧ (s.scrubbed n).fence = s.fence ∧ (s.scrubbed n).attn = s.attn ∧
    (s.scrubbed n).frame = s.frame ∧ (s.scrubbed n).portA = s.portA ∧ (s.scrubbed n).portB = s.portB ∧
    (s.scrubbed n).mem = s.mem ∧ (s.scrubbed n).free = s.free ∧ (s.scrubbed n).pending = s.pending := by
  unfold State.scrubbed
  dsimp only
  split
  · simp
  · split <;> simp

@[simp] theorem rollbackSlot_untouched (s : State) (rb : Rollback) (bs : List Byte) (merr : Bool) :
    (s.rollbackSlot rb bs merr).pins = s.pins ∧ (s.rollbackSlot rb bs merr).memSize = s.memSize ∧
    (s.rollbackSlot rb bs merr).cause = s.cause ∧ (s.rollbackSlot rb bs merr).filter = s.filter ∧
    (s.rollbackSlot rb bs merr).engine = s.engine ∧ (s.rollbackSlot rb bs merr).decoder = s.decoder ∧
    (s.rollbackSlot rb bs merr).fence = s.fence ∧ (s.rollbackSlot rb bs merr).frame = s.frame ∧
    (s.rollbackSlot rb bs merr).portA = s.portA ∧ (s.rollbackSlot rb bs merr).portB = s.portB ∧
    (s.rollbackSlot rb bs merr).mem = s.mem ∧ (s.rollbackSlot rb bs merr).free = s.free ∧
    (s.rollbackSlot rb bs merr).pending = s.pending := by
  unfold State.rollbackSlot
  dsimp only
  split
  · simp
  · split <;> simp

end Sys2Proof.Machine
end

section
/-! PROOFS. The memory under every command: only a memory write changes it, and it keeps its form (R172). -/
namespace Sys2Proof.Machine

open Sys2Proof

/-- `cells` stores nothing but what the operation's cells carry: all of them, or what a cut-off left of them (R172). -/
def MemOp.carries (op : MemOp) (cells : List (Option Byte)) : Prop :=
  ∀ (i : Nat) (b : Byte), cells[i]? = some (some b) → op.cells[i]? = some (some b)

/-- What a cut-off write has stored is part of what it carries (R172). -/
theorem carries_tornCells (op : MemOp) (cut : Nat) (lanes : BitVec 4) : op.carries (tornCells cut lanes op.cells) := by
  intro i b h
  simp only [tornCells, List.getElem?_mapIdx, Option.map_eq_some_iff] at h
  obtain ⟨c, hc, h⟩ := h
  split at h
  · rw [hc, h]
  · split at h
    · rw [hc, h]
    · cases h

/-- `m'` comes from the part's memory by a write in progress, completed or cut off, or is that memory (R172). -/
def State.writesInto (s : State) (m' : Mem) : Prop :=
  m' = s.mem ∨ ∃ r op cells, s.arb.current = some (r, op) ∧ op.purpose.isWrite = true ∧ op.carries cells
    ∧ m' = s.mem.writeCells op.addr cells

/-- A completed write (R172). -/
theorem writesInto_completed {s : State} {r : Requester} {op : MemOp} (hcur : s.arb.current = some (r, op))
    (hw : op.purpose.isWrite = true) : s.writesInto (s.mem.writeCells op.addr op.cells) :=
  .inr ⟨r, op, op.cells, hcur, hw, fun _ _ h => h, rfl⟩

/-- A cut-off write (R172). -/
theorem writesInto_tear (s : State) (cut : Nat) : s.writesInto (s.tear cut).mem := by
  unfold State.tear
  split
  · rename_i r op hcur
    split
    · rename_i hw
      exact .inr ⟨r, op, _, hcur, hw, carries_tornCells op cut _, rfl⟩
    · exact .inl rfl
  · exact .inl rfl

@[simp] theorem storeCells_mem (s : State) (op : MemOp) :
    (s.storeCells op).mem = s.mem.writeCells op.addr op.cells := rfl

/-- A reset leaves the memory as a cut-off write left it (R8, R172). -/
@[simp] theorem beginReset_mem (s : State) (why : StartCause) (cut : Nat) :
    (s.beginReset why cut).mem = (s.tear cut).mem := rfl

/-- What any command does to the memory (R172). -/
theorem Event_mem {s t : State} {c : Instr} (h : s.Event c t) : s.writesInto t.mem := by
  cases h with
  | begins _ _ cut => simpa using writesInto_tear s cut
  | softResets cut =>
    have e : ((s.setPins { s.pins with mcsLow := false }).tear cut).mem = (s.tear cut).mem := by
      unfold State.tear
      simp only [State.setPins_arb]
      split
      · split <;> rfl
      · rfl
    simpa [e] using writesInto_tear s cut
  | writeCompletes p op _ hcur hpurpose => simpa using writesInto_completed hcur (by rw [hpurpose]; rfl)
  | recordWritten op e n _ hcur hpurpose => simpa using writesInto_completed hcur (by rw [hpurpose]; rfl)
  | firstPartWritten op k seq rest _ hcur hpurpose => simpa using writesInto_completed hcur (by rw [hpurpose]; rfl)
  | copyWritten op k seq _ hcur hpurpose => simpa using writesInto_completed hcur (by rw [hpurpose]; rfl)
  | scrubs op n _ hcur hpurpose => simpa using writesInto_completed hcur (by rw [hpurpose]; rfl)
  | restores op rb _ hcur hpurpose => simpa using writesInto_completed hcur (by rw [hpurpose]; rfl)
  | _ => left; simp

/-- A byte that a store changes is one that its cells carry (R172). -/
theorem Mem.read_writeCells_cases (m : Mem) (a : Nat) (cs : List (Option Byte)) (x : Nat) :
    (m.writeCells a cs).read x = m.read x
      ∨ ∃ i b, cs[i]? = some (some b) ∧ x = (a + i) % addressSpace ∧ (m.writeCells a cs).read x = b := by
  induction cs generalizing m a with
  | nil => exact .inl rfl
  | cons c cs ih =>
    have later : ∀ m' : Mem, (m'.writeCells (a + 1) cs).read x = m'.read x
        ∨ ∃ i b, (c :: cs)[i]? = some (some b) ∧ x = (a + i) % addressSpace
          ∧ (m'.writeCells (a + 1) cs).read x = b := by
      intro m'
      obtain h | ⟨i, b, hi, hx, hb⟩ := ih m' (a + 1)
      · exact .inl h
      · exact .inr ⟨i + 1, b, by simpa using hi, by rw [hx]; congr 1; omega, hb⟩
    cases c with
    | none => exact later m
    | some b =>
      obtain h | h := later (m.write (a % addressSpace) b)
      · by_cases hx : x = a % addressSpace
        · exact .inr ⟨0, b, rfl, hx, by simp only [Mem.writeCells]; rw [h, Mem.read_write, if_pos hx]⟩
        · left
          simp only [Mem.writeCells]
          rw [h, Mem.read_write, if_neg hx]
      · exact .inr h

/-- Settles O51: the memory changes by the write in progress alone, and a byte it changes is one its cells carry. -/
theorem memoryChangesOnlyUnderAWrite : Obligations.MemoryChangesOnlyUnderAWrite := by
  intro c s t a h hne
  obtain hm | ⟨r, op, cells, hcur, hw, hcarries, hm⟩ := Event_mem (Event_of_exec h)
  · exact absurd (by rw [hm]) hne
  · rw [hm] at hne ⊢
    obtain he | ⟨i, b, hi, ha, hb⟩ := Mem.read_writeCells_cases s.mem op.addr cells a
    · exact absurd he hne
    · exact ⟨r, op, i, b, hcur, hw, hcarries i b hi, ha, hb⟩

/-- Settles O53: the canonical form is kept by every store (R172, log 4). -/
theorem everyCommandKeepsTheMemorysForm : Obligations.EveryCommandKeepsTheMemorysForm := by
  intro c s t hwf h
  obtain hm | ⟨r, op, cells, -, -, -, hm⟩ := Event_mem (Event_of_exec h)
  · rwa [hm]
  · rw [hm]
    exact Mem.wf_writeCells hwf _ _

end Sys2Proof.Machine
end

section
/-! PROOFS. The work of the Journal Controller under every command (R15, R98, R120): each shared operation leaves it at
the one thing its step names. -/
namespace Sys2Proof.Machine

open Sys2Proof

/-! ## What the Journal Controller has outstanding (R174) -/

/-- The Journal Controller has no second operation pending beside the one in progress (R174). -/
def State.journalSingle (s : State) : Prop := ∀ op, s.arb.current = some (.journal, op) → s.arb.journal = none

/-- With nothing outstanding, the Journal Controller's operation is not in progress either (R174). -/
theorem current_of_journalIdle {s : State} (h : s.outstanding .journal = none) (op : MemOp) :
    s.arb.current ≠ some (.journal, op) := by
  intro hc
  unfold State.outstanding Arbiter.outstanding at h
  rw [hc] at h
  cases hj : s.arb.request .journal <;> simp [hj] at h

theorem journalSingle_of_idle {s : State} (h : s.outstanding .journal = none) : s.journalSingle :=
  fun op hc => absurd hc (current_of_journalIdle h op)

/-- A request of an idle Journal Controller is its only operation (R174). -/
theorem journalSingle_request {s : State} (h : s.outstanding .journal = none) (op : MemOp) :
    (s.request .journal op).journalSingle := by
  intro op' hc
  exact absurd (by simpa [State.request] using hc) (current_of_journalIdle h op')

theorem journalSingle_settle {b : Arbiter} {s : State} (h : s.journalSingle) : (s.settle b).journalSingle := by
  obtain ⟨e, -⟩ | ⟨e, hc, -⟩ | ⟨r, op, hc, hr, e⟩ := settle_cases b s
  · rwa [e]
  · rw [e]; intro op hop; simp [hc] at hop
  · intro op' hop
    rw [e] at hop ⊢
    simp only [Option.some.injEq, Prod.mk.injEq] at hop
    obtain ⟨rfl, rfl⟩ := hop
    rfl

/-- The completion of the Journal Controller's operation leaves it with none (R172, R174). -/
theorem release_journalIdle {s : State} {op : MemOp} (h : s.journalSingle)
    (hcur : s.arb.current = some (.journal, op)) : s.release.outstanding .journal = none := by
  have hj := h op hcur
  simp [State.outstanding, Arbiter.outstanding, Arbiter.request, State.release, hj]

/-- The completion of another requester's operation is no concern of the Journal Controller's (R174). -/
theorem release_outstanding_journal {s : State} {r : Requester} {op : MemOp}
    (hcur : s.arb.current = some (r, op)) (hr : r ≠ .journal) :
    s.release.outstanding .journal = s.outstanding .journal := by
  simp [State.outstanding, Arbiter.outstanding, Arbiter.request, State.release, hcur, hr]

/-- What is outstanding stands at the arbiter alone (R174). -/
theorem outstanding_congr {s t : State} (h : t.arb = s.arb) (r : Requester) : t.outstanding r = s.outstanding r := by
  simp [State.outstanding, h]

/-! ## The Journal Controller's share of the part -/

/-- The Journal Controller works at what its step names, for the operation of the journal state, one thing at a time
(R15, R98, R174). -/
def State.onDuty (s : State) : Prop := s.stepWork ∧ s.operationSound ∧ s.journalSingle

theorem workSound_iff {s : State} (h : s.inReset = false) : s.workSound ↔ s.onDuty := by
  simp [State.workSound, State.onDuty, State.journalSingle, h]

/-- Two parts whose Journal Controllers are at the same work: all but fill and what is at the arbiter for others. -/
structure State.sameWork (s t : State) : Prop where
  jc : t.jc = { s.jc with fill := t.jc.fill }
  anchors : t.anchors.op = s.anchors.op
  outstanding : t.outstanding .journal = s.outstanding .journal
  pins : t.inReset = s.inReset

theorem stepWork_congr {s t : State} (h : s.sameWork t) (hs : s.stepWork) : t.stepWork := by
  obtain ⟨hjc, ha, ho, hp⟩ := h
  unfold State.stepWork at hs ⊢
  rw [hjc]
  cases hstep : s.jc.step with
  | none => simpa [hstep, ha, ho, hp] using hs
  | some x =>
    cases x <;> rw [hstep] at hs <;>
      simpa [State.journalDoes, State.anchorWork, Anchors.reading, ha, ho] using hs

theorem onDuty_congr {s t : State} (h : s.sameWork t) (hone : t.journalSingle) (hs : s.onDuty) : t.onDuty := by
  refine ⟨stepWork_congr h hs.1, ?_, hone⟩
  have := hs.2.1
  unfold State.operationSound at this ⊢
  rw [h.jc]
  exact this

theorem workSound_congr {s t : State} (h : s.sameWork t) (hone : t.journalSingle) (hs : s.workSound) :
    t.workSound := by
  obtain ⟨hstep, hop, hreset, -⟩ := hs
  refine ⟨stepWork_congr h hstep, ?_, ?_, hone⟩
  · unfold State.operationSound at hop ⊢
    rw [h.jc]
    exact hop
  · rw [h.pins, h.jc]
    exact hreset

/-- A part that differs in nothing the Journal Controller has is at the same work. -/
theorem sameWork_of_eq {s t : State} (hjc : t.jc = s.jc) (ha : t.anchors = s.anchors)
    (hc : t.arb.current = s.arb.current) (hj : t.arb.journal = s.arb.journal) (hp : t.inReset = s.inReset) :
    s.sameWork t :=
  ⟨by rw [hjc], by rw [ha], outstanding_journal_congr hc hj, hp⟩

theorem journalSingle_congr {s t : State} (hc : t.arb.current = s.arb.current) (hj : t.arb.journal = s.arb.journal)
    (h : s.journalSingle) : t.journalSingle := by
  unfold State.journalSingle
  rw [hc, hj]
  exact h

theorem onDuty_of_eq {s t : State} (hs : s.onDuty) (hjc : t.jc = s.jc) (ha : t.anchors = s.anchors)
    (hc : t.arb.current = s.arb.current) (hj : t.arb.journal = s.arb.journal) (hp : t.inReset = s.inReset) : t.onDuty :=
  onDuty_congr (sameWork_of_eq hjc ha hc hj hp) (journalSingle_congr hc hj hs.2.2) hs

theorem workSound_of_eq {s t : State} (hs : s.workSound) (hjc : t.jc = s.jc) (ha : t.anchors = s.anchors)
    (hc : t.arb.current = s.arb.current) (hj : t.arb.journal = s.arb.journal) (hp : t.inReset = s.inReset) :
    t.workSound :=
  workSound_congr (sameWork_of_eq hjc ha hc hj hp) (journalSingle_congr hc hj hs.2.2.2) hs

/-- The grant at the end of an event leaves the Journal Controller at its work (R174). -/
theorem onDuty_settle {b : Arbiter} {s : State} (h : s.onDuty) : (s.settle b).onDuty :=
  onDuty_congr ⟨by simp, by simp, by simp, by simp [State.inReset]⟩ (journalSingle_settle h.2.2) h

theorem workSound_settle {b : Arbiter} {s : State} (h : s.workSound) : (s.settle b).workSound :=
  workSound_congr ⟨by simp, by simp, by simp, by simp [State.inReset]⟩ (journalSingle_settle h.2.2.2) h

/-! ## What an operation starts -/

/-- The Journal Controller's hand is free for a new piece of work: it scans, scrubs and drains nothing, and has nothing
outstanding; what a rollback has counted stays to the end of the operation (R98, log 17). -/
structure State.handFree (s : State) : Prop where
  scan : s.jc.scan = none
  scrub : s.jc.scrub = none
  drain : s.jc.drain = []
  unit : s.anchors.op = none
  idle : s.outstanding .journal = none
  operation : s.operationSound

/-- The rollback items belong to an ABORT or a recovery (R98, R120). -/
def State.rollbackOwned (s : State) : Prop := s.jc.rollback ≠ none → s.jc.op = .abort ∨ s.jc.op = .recovery

/-- An anchor write requested by a Journal Controller with nothing outstanding is its work (R91). -/
theorem writeAnchor_work {s : State} (h : s.outstanding .journal = none) (e : Word) (ph : Phase) (g : Geometry)
    (c : Setup) :
    (s.writeAnchor e ph g c).anchors.op ≠ none ∧ (s.writeAnchor e ph g c).anchors.reading = false
      ∧ (s.writeAnchor e ph g c).anchorWork ∧ (s.writeAnchor e ph g c).journalSingle := by
  refine ⟨by simp [State.writeAnchor], by simp [State.writeAnchor, Anchors.reading], ?_, journalSingle_request h _⟩
  simp [State.writeAnchor, State.anchorWork, State.journalDoes, MemOp.writes]

theorem setStep_outstanding (s : State) (x : Step) (r : Requester) : (s.setStep x).outstanding r = s.outstanding r :=
  rfl

theorem startAdvance_onDuty {s : State} (h : s.handFree) (ho : s.jc.op = .commit ∨ s.jc.op = .abort ∨ s.jc.op = .recovery)
    (hrb : s.rollbackOwned) : s.startAdvance.onDuty := by
  have key : ∀ e ph g c, ((s.setStep .advancing).writeAnchor e ph g c).onDuty := by
    intro e ph g c
    obtain ⟨h1, h2, h3, h4⟩ := writeAnchor_work (s := s.setStep .advancing) h.idle e ph g c
    have hjc : ((s.setStep .advancing).writeAnchor e ph g c).jc = { s.jc with step := some .advancing } := by
      simp [State.writeAnchor, State.setStep]
    refine ⟨?_, ?_, h4⟩
    · unfold State.stepWork
      rw [hjc]
      exact ⟨h.scan, h.scrub, h.drain, h1, h2, h3, ho, hrb⟩
    · unfold State.operationSound
      rw [hjc]
      exact h.operation
  unfold State.startAdvance
  dsimp only
  split <;> exact key _ _ _ _

theorem startWrapAnchor_onDuty {s : State} (h : s.handFree)
    (ho : s.jc.op = .commit ∨ s.jc.op = .abort ∨ s.jc.op = .recovery) (hrb : s.rollbackOwned) :
    s.startWrapAnchor.onDuty := by
  obtain ⟨h1, h2, h3, h4⟩ := writeAnchor_work (s := s.setStep .wrapAnchor) h.idle 1 .opened s.activeGeom s.store.active
  have hjc : s.startWrapAnchor.jc = { s.jc with step := some .wrapAnchor } := by
    simp [State.startWrapAnchor, State.writeAnchor, State.setStep]
  refine ⟨?_, ?_, h4⟩
  · unfold State.stepWork
    rw [hjc]
    exact ⟨h.scan, h.scrub, h.drain, h1, h2, h3, ho, hrb⟩
  · unfold State.operationSound
    rw [hjc]
    exact h.operation

theorem startApplyAnchor_onDuty {s : State} (h : s.handFree) (ho : s.jc.op = .apply) (hrb : s.jc.rollback = none) :
    s.startApplyAnchor.onDuty := by
  obtain ⟨h1, h2, h3, h4⟩ := writeAnchor_work (s := s.setStep .applyAnchor) h.idle s.jc.epoch .opened s.activeGeom
    s.store.staged
  have hjc : s.startApplyAnchor.jc = { s.jc with step := some .applyAnchor } := by
    simp [State.startApplyAnchor, State.writeAnchor, State.setStep]
  refine ⟨?_, ?_, h4⟩
  · unfold State.stepWork
    rw [hjc]
    exact ⟨h.scan, h.scrub, hrb, h.drain, h1, h2, h3, ho⟩
  · unfold State.operationSound
    rw [hjc]
    exact h.operation

theorem startFormatAnchor_onDuty {s : State} {x : Step} (hx : x = .firstAnchor ∨ x = .secondAnchor) (h : s.handFree)
    (ho : s.jc.op = .format) (hrb : s.jc.rollback = none) : (s.startFormatAnchor x).onDuty := by
  obtain ⟨h1, h2, h3, h4⟩ := writeAnchor_work (s := s.setStep x) h.idle 1 .opened s.store.stagedGeom s.store.staged
  have hjc : (s.startFormatAnchor x).jc = { s.jc with step := some x } := by
    simp [State.startFormatAnchor, State.writeAnchor, State.setStep]
  refine ⟨?_, ?_, h4⟩
  · unfold State.stepWork
    rw [hjc]
    obtain rfl | rfl := hx <;> exact ⟨h.scan, h.scrub, hrb, h.drain, h1, h2, h3, ho⟩
  · unfold State.operationSound
    rw [hjc]
    exact h.operation

/-- The Journal Controller requests the scrub of a slot (R33). -/
theorem requestScrub_onDuty {s : State} {n : Nat} (hstep : s.jc.step = some .scrubbing) (hscan : s.jc.scan = none)
    (hdrain : s.jc.drain = []) (hunit : s.anchors.op = none) (hidle : s.outstanding .journal = none)
    (hop : s.operationSound) (ho : s.jc.op ≠ .none ∧ s.jc.op ≠ .apply) (hrb : s.rollbackOwned) :
    (s.requestScrub n).onDuty := by
  refine ⟨?_, ?_, journalSingle_request hidle _⟩
  · unfold State.stepWork
    simp only [State.requestScrub, State.request_untouched, State.setJc_jc, hstep]
    refine ⟨hscan, hdrain, hunit, by simp, ?_, ho.1, ho.2, hrb⟩
    exact ⟨_, request_outstanding_self _ _ _, rfl⟩
  · simpa [State.operationSound, State.requestScrub] using hop

theorem startScrub_onDuty {s : State} (h : s.handFree) (ho : s.jc.op ≠ .none ∧ s.jc.op ≠ .apply)
    (hrb : s.rollbackOwned) : s.startScrub.onDuty :=
  requestScrub_onDuty rfl h.scan h.drain h.unit h.idle h.operation ho hrb

/-! ## What ends an operation -/

theorem endOperation_onDuty {s : State} {st : JournalState} (hst : st.longOp = .none) (hunit : s.anchors.op = none)
    (hidle : s.outstanding .journal = none) (e : Word) (fill : Nat) (rec : LastOp) :
    (s.endOperation st e fill rec).onDuty :=
  ⟨⟨rfl, rfl, rfl, rfl, hunit, hidle, fun _ => rfl⟩, hst.symm, journalSingle_of_idle hidle⟩

theorem completeRecovery_onDuty {s : State} {st : JournalState} (hst : st.longOp = .none) (hunit : s.anchors.op = none)
    (hidle : s.outstanding .journal = none) (o : RecoveryOutcome) (e : Word) (fill : Nat) (r : Report) :
    (s.completeRecovery o st e fill r).onDuty :=
  ⟨⟨rfl, rfl, rfl, rfl, hunit, hidle, fun _ => rfl⟩, hst.symm, journalSingle_of_idle hidle⟩

/-- The decisions that held writes retake are no work of the Journal Controller's (R70). -/
theorem retake_onDuty {s : State} (h : s.onDuty) : s.retake.onDuty :=
  onDuty_of_eq h (by simp) (by simp) (by simp) (by simp) (by simp [State.inReset])

theorem finishRetake_onDuty {s : State} (h : s.onDuty) : s.finishRetake.onDuty :=
  onDuty_of_eq h (by simp) (by simp) (by simp) (by simp) (by simp [State.inReset])

theorem setFrame_onDuty {s : State} (h : s.onDuty) (k : Option Frame) : (s.setFrame k).onDuty :=
  onDuty_of_eq h rfl rfl rfl rfl rfl

theorem applyNotEmpty_onDuty {s : State} (h : s.handFree) : s.applyNotEmpty.onDuty :=
  retake_onDuty (endOperation_onDuty rfl h.unit h.idle _ _ _)

theorem completeApply_onDuty {s : State} (h : s.handFree) : s.completeApply.onDuty :=
  retake_onDuty (endOperation_onDuty rfl (by simpa using h.unit)
    (by rw [outstanding_congr (s := s) (by simp)]; exact h.idle) _ _ _)

theorem completeFormat_onDuty {s : State} (h : s.handFree) : s.completeFormat.onDuty :=
  retake_onDuty (endOperation_onDuty rfl (by simpa using h.unit)
    (by rw [outstanding_congr (s := s) (by simp)]; exact h.idle) _ _ _)

theorem completeAdvance_onDuty {s : State} (h : s.handFree)
    (ho : s.jc.op = .commit ∨ s.jc.op = .abort ∨ s.jc.op = .recovery) (e : Word) : (s.completeAdvance e).onDuty := by
  unfold State.completeAdvance
  obtain ho | ho | ho := ho <;> simp only [ho]
  · exact retake_onDuty (endOperation_onDuty rfl h.unit h.idle _ _ _)
  · exact endOperation_onDuty rfl h.unit h.idle _ _ _
  · split <;> exact completeRecovery_onDuty rfl (by exact h.unit) (by exact h.idle) _ _ _ _

/-! ## Rollback and scan -/

/-- A hand that is free stays free as items of the journal but those of the work change. -/
theorem handFree_setJc {s : State} (h : s.handFree) {j : Journal} (hscan : j.scan = none) (hscrub : j.scrub = none)
    (hdrain : j.drain = []) (hop : j.op = s.jc.op) (hst : j.state = s.jc.state) : (s.setJc j).handFree :=
  ⟨hscan, hscrub, hdrain, h.unit, h.idle, by
    have := h.operation
    unfold State.operationSound at this ⊢
    simp only [State.setJc_jc, hop, hst, this]⟩

theorem endRollback_onDuty {s : State} (h : s.handFree) (ho : s.jc.op = .abort ∨ s.jc.op = .recovery)
    (rb : Rollback) : (s.endRollback rb).onDuty := by
  unfold State.endRollback
  split
  · exact startAdvance_onDuty h (.inr ho) fun _ => ho
  · split
    · exact completeRecovery_onDuty rfl h.unit h.idle _ _ _ _
    · exact endOperation_onDuty rfl h.unit h.idle _ _ _

theorem rollTo_onDuty {s : State} (h : s.handFree) (hstep : s.jc.step = some .rollingBack)
    (ho : s.jc.op = .abort ∨ s.jc.op = .recovery) (rb : Rollback) : (s.rollTo rb).onDuty := by
  have h' : (s.setJc { s.jc with rollback := some rb }).handFree :=
    handFree_setJc h h.scan h.scrub h.drain rfl rfl
  unfold State.rollTo
  dsimp only
  split
  · rename_i hpos
    refine ⟨?_, h'.operation, journalSingle_request h'.idle _⟩
    unfold State.stepWork
    simp only [State.request_untouched, State.setJc_jc, hstep]
    exact ⟨h.scan, h.scrub, h.drain, h.unit,
      ⟨rb, rfl, hpos, .inl ⟨_, request_outstanding_self _ _ _, rfl⟩⟩, ho⟩
  · exact endRollback_onDuty h' ho rb

theorem startRollback_onDuty {s : State} (h : s.handFree) (ho : s.jc.op = .abort ∨ s.jc.op = .recovery) :
    s.startRollback.onDuty :=
  rollTo_onDuty (s := s.setStep .rollingBack) (handFree_setJc h h.scan h.scrub h.drain rfl rfl) rfl ho _

/-- The end of a scan: all that the scan needs of the part is that the hand is free but for the scan (R128). -/
theorem endScan_onDuty {s : State} (h : (s.setJc { s.jc with scan := none }).handFree)
    (ho : s.jc.op = .abort ∨ s.jc.op = .recovery) (reason : StopReason) (cls : Option SlotClass) (k n line : Nat) :
    (s.endScan reason cls k n line).onDuty := by
  have free : ((s.setJc { s.jc with fill := k, scan := none }).setFilter .empty).handFree :=
    ⟨rfl, h.scrub, h.drain, h.unit, h.idle, h.operation⟩
  unfold State.endScan
  dsimp only
  generalize hu : (s.setJc { s.jc with fill := k, scan := none }).setFilter .empty = u at free ⊢
  have ho : u.jc.op = .abort ∨ u.jc.op = .recovery := by rw [← hu]; exact ho
  split
  · split
    · exact completeRecovery_onDuty rfl (by exact free.unit) (by exact free.idle) _ _ _ _
    · split
      · exact completeRecovery_onDuty rfl (by exact free.unit) (by exact free.idle) _ _ _ _
      · exact startRollback_onDuty (handFree_setJc free free.scan free.scrub free.drain rfl rfl) ho
  · split
    · exact endOperation_onDuty rfl (by exact free.unit) (by exact free.idle) _ _ _
    · exact startRollback_onDuty free ho

/-- Which operation scans in which step (R110, R125). -/
def State.scansFor (s : State) : Prop :=
  (s.jc.step = some .scanning ∧ s.jc.op = .recovery) ∨ (s.jc.step = some .rescanning ∧ s.jc.op = .abort)

/-- A scan's next read is its work (R125, R127). -/
theorem scanRequest_onDuty {s : State} (h : (s.setJc { s.jc with scan := none }).handFree) (hrb : s.jc.rollback = none)
    (hs : s.scansFor) (sc : Scan) {op : MemOp}
    (hop : op.purpose = if sc.lookAhead then .lookAheadRead else .scanRead) :
    ((s.setJc { s.jc with scan := some sc }).request .journal op).onDuty := by
  refine ⟨?_, h.operation, journalSingle_request h.idle _⟩
  unfold State.stepWork
  obtain ⟨hstep, ho⟩ | ⟨hstep, ho⟩ := hs <;> simp only [State.request_untouched, State.setJc_jc, hstep]
  all_goals
    exact ⟨h.scrub, hrb, h.drain, h.unit, ⟨sc, rfl, ⟨_, request_outstanding_self _ _ _, hop⟩⟩, ho⟩

theorem scanTo_onDuty {s : State} (h : (s.setJc { s.jc with scan := none }).handFree) (hrb : s.jc.rollback = none)
    (hs : s.scansFor) (k : Nat) : (s.scanTo k).onDuty := by
  unfold State.scanTo
  dsimp only
  split
  · exact scanRequest_onDuty h hrb hs ⟨k, false, 0⟩ rfl
  · exact endScan_onDuty h (hs.symm.imp And.right And.right) _ _ _ _ _

theorem scanSlot_onDuty {s : State} (h : (s.setJc { s.jc with scan := none }).handFree) (hrb : s.jc.rollback = none)
    (hs : s.scansFor) (k : Nat) (bs : List Byte) (merr : Bool) : (s.scanSlot k bs merr).onDuty := by
  have ho : s.jc.op = .abort ∨ s.jc.op = .recovery := hs.symm.imp And.right And.right
  unfold State.scanSlot
  dsimp only
  split
  · exact scanTo_onDuty h hrb hs _
  · split
    · split
      · exact scanRequest_onDuty h hrb hs ⟨k, true, slotLine bs⟩ rfl
      · exact endScan_onDuty h ho _ _ _ _ _
    · exact endScan_onDuty h ho _ _ _ _ _

theorem startScan_onDuty {s : State} (h : s.handFree) (hrb : s.jc.rollback = none) {x : Step}
    (hx : (x = .scanning ∧ s.jc.op = .recovery) ∨ (x = .rescanning ∧ s.jc.op = .abort)) :
    (s.startScan x).onDuty := by
  refine scanTo_onDuty (s := s.setStep x) (handFree_setJc h rfl h.scrub h.drain rfl rfl) hrb ?_ 0
  obtain ⟨rfl, ho⟩ | ⟨rfl, ho⟩ := hx
  · exact .inl ⟨rfl, ho⟩
  · exact .inr ⟨rfl, ho⟩

/-! ## The drain (R82) -/

theorem drainDone_onDuty {s : State} (h : s.handFree) (hrb : s.jc.rollback = none)
    (ho : s.jc.op ≠ .none ∧ s.jc.op ≠ .recovery) : s.drainDone.onDuty := by
  have hown : s.rollbackOwned := fun hne => absurd hrb hne
  unfold State.drainDone
  split
  · rename_i h'; exact startAdvance_onDuty h (.inl h') hown
  · rename_i h'; exact startRollback_onDuty h (.inl h')
  · rename_i h'
    split
    · exact startApplyAnchor_onDuty h h' hrb
    · exact applyNotEmpty_onDuty h
  · rename_i h'; exact startScrub_onDuty h ⟨by simp [h'], by simp [h']⟩ hown
  · rename_i h'; exact absurd h' ho.1
  · rename_i h'; exact absurd h' ho.2

/-- The Journal Controller waits for a drain, or goes on once there is nothing to wait for (R82). -/
theorem draining_onDuty {s : State} (hscan : s.jc.scan = none) (hscrub : s.jc.scrub = none)
    (hrb : s.jc.rollback = none) (hunit : s.anchors.op = none) (hidle : s.outstanding .journal = none)
    (hop : s.operationSound) (ho : s.jc.op ≠ .none ∧ s.jc.op ≠ .recovery) (hstep : s.jc.step = some .draining) :
    (if s.jc.drain = [] then s.drainDone else s).onDuty := by
  split
  · rename_i hd
    exact drainDone_onDuty ⟨hscan, hscrub, hd, hunit, hidle, hop⟩ hrb ho
  · rename_i hd
    refine ⟨?_, hop, journalSingle_of_idle hidle⟩
    unfold State.stepWork
    rw [hstep]
    exact ⟨hscan, hscrub, hrb, hd, hunit, hidle, ho.1, ho.2⟩

theorem startDrain_onDuty {s : State} (h : s.handFree) (hrb : s.jc.rollback = none)
    (ho : s.jc.op ≠ .none ∧ s.jc.op ≠ .recovery) (ports : List Port) : (s.startDrain ports).onDuty :=
  draining_onDuty (s := s.setJc { s.jc with step := some .draining, drain := ports }) h.scan h.scrub hrb h.unit h.idle
    h.operation ho rfl

/-- Only in the drain does the Journal Controller wait for a port (R82). -/
theorem draining_of_mem {s : State} (h : s.stepWork) {p : Port} (hp : p ∈ s.jc.drain) :
    s.jc.step = some .draining := by
  have hne : s.jc.drain ≠ [] := List.ne_nil_of_mem hp
  unfold State.stepWork at h
  split at h
  case h_2 hstep => exact hstep
  all_goals (exfalso; tauto)

/-- A response leaves the Journal Controller at its drain, or starts the operation's own work (R82). -/
theorem portResponded_onDuty {s : State} (h : s.onDuty) (p : Port) : (s.portResponded p).onDuty := by
  unfold State.portResponded
  split
  · rename_i hp
    obtain ⟨hwork, hop, -⟩ := h
    have hstep := draining_of_mem hwork hp
    unfold State.stepWork at hwork
    rw [hstep] at hwork
    obtain ⟨hscan, hscrub, hrb, -, hunit, hidle, ho⟩ := hwork
    exact draining_onDuty (s := s.setJc { s.jc with drain := s.jc.drain.filter (fun q => q ≠ p) }) hscan hscrub hrb
      hunit hidle hop ho hstep
  · exact h

end Sys2Proof.Machine
end

section
/-! PROOFS. An operation never stops short: every command leaves the Journal Controller at its work (R15, R98, R120). -/
namespace Sys2Proof.Machine

open Sys2Proof

/-! ## Which work is under way (R98, R120) -/

/-- With no operation in progress the Journal Controller works at nothing (R15, R98). -/
theorem handFree_of_noOperation {s : State} (h : s.workSound) (ho : s.jc.op = .none) :
    s.handFree ∧ s.jc.rollback = none := by
  obtain ⟨hwork, hop, -⟩ := h
  unfold State.stepWork at hwork
  split at hwork
  case h_1 =>
    obtain ⟨hscan, hscrub, hrb, hdrain, hunit, hidle, -⟩ := hwork
    exact ⟨⟨hscan, hscrub, hdrain, hunit, hidle, hop⟩, hrb⟩
  all_goals (exfalso; simp [ho] at hwork)

/-- During a reset the Journal Controller works at nothing (R118). -/
theorem handFree_of_reset {s : State} (h : s.workSound) (hr : s.inReset = true) :
    s.handFree ∧ s.jc.rollback = none ∧ s.jc.state = .recovering := by
  obtain ⟨hwork, hop, hreset, -⟩ := h
  obtain ⟨hstep, hst⟩ := hreset hr
  unfold State.stepWork at hwork
  rw [hstep] at hwork
  obtain ⟨hscan, hscrub, hrb, hdrain, hunit, hidle, -⟩ := hwork
  exact ⟨⟨hscan, hscrub, hdrain, hunit, hidle, hop⟩, hrb, hst⟩

/-- The copies are read in step ANCHOR_SEARCH alone (R88). -/
theorem anchorSearch_of_reading {s : State} (h : s.stepWork) (ha : s.anchors.reading = true) :
    s.jc.step = some .anchorSearch ∧ s.jc.scan = none ∧ s.jc.scrub = none ∧ s.jc.rollback = none
      ∧ s.jc.drain = [] ∧ s.jc.op = .recovery := by
  have hne : s.anchors.op ≠ none := by
    intro he
    simp [Anchors.reading, he] at ha
  unfold State.stepWork at h
  split at h
  case h_3 hstep => tauto
  all_goals (exfalso; simp_all)

/-- The steps in which an anchor is written, each with its operation (R91, R98). -/
theorem writing_of_unit {s : State} (h : s.stepWork) (hne : s.anchors.op ≠ none) (ha : s.anchors.reading = false) :
    s.jc.scan = none ∧ s.jc.scrub = none ∧ s.jc.drain = [] ∧ s.rollbackOwned
      ∧ (((s.jc.step = some .advancing ∨ s.jc.step = some .wrapAnchor)
            ∧ (s.jc.op = .commit ∨ s.jc.op = .abort ∨ s.jc.op = .recovery))
        ∨ (s.jc.rollback = none
          ∧ ((s.jc.step = some .applyAnchor ∧ s.jc.op = .apply)
            ∨ ((s.jc.step = some .firstAnchor ∨ s.jc.step = some .secondAnchor) ∧ s.jc.op = .format)))) := by
  unfold State.stepWork at h
  unfold State.rollbackOwned
  split at h
  case h_8 | h_9 | h_10 | h_11 | h_12 => simp_all
  all_goals (exfalso; simp_all)

/-- A slot is scrubbed in step SCRUBBING alone (R33). -/
theorem scrubbing_of_scrub {s : State} (h : s.stepWork) (hne : s.jc.scrub ≠ none) :
    s.jc.step = some .scrubbing ∧ s.jc.scan = none ∧ s.jc.drain = [] ∧ s.anchors.op = none
      ∧ s.jc.op ≠ .none ∧ s.jc.op ≠ .apply ∧ s.rollbackOwned := by
  unfold State.stepWork at h
  unfold State.rollbackOwned
  split at h
  case h_7 => tauto
  all_goals (exfalso; tauto)

/-- A scan is in progress in its two steps alone (R110, R125). -/
theorem scansFor_of_scan {s : State} (h : s.stepWork) (hne : s.jc.scan ≠ none) :
    s.scansFor ∧ s.jc.scrub = none ∧ s.jc.rollback = none ∧ s.jc.drain = [] ∧ s.anchors.op = none := by
  unfold State.stepWork at h
  unfold State.scansFor
  split at h
  case h_4 | h_5 => tauto
  all_goals (exfalso; tauto)

/-- The Journal Controller's operation in progress tells what it has outstanding (R174). -/
theorem outstanding_of_current {s : State} {op : MemOp} (hone : s.journalSingle)
    (hcur : s.arb.current = some (.journal, op)) : s.outstanding .journal = some op := by
  have hj := hone op hcur
  simp [State.outstanding, Arbiter.outstanding, Arbiter.request, hcur, hj]

/-- The slots are read back, and lines written, in step ROLLING_BACK alone (R105). -/
theorem rollingBack_of_current {s : State} {op : MemOp} (h : s.stepWork) (hone : s.journalSingle)
    (hcur : s.arb.current = some (.journal, op)) (hp : op.purpose = .rollbackRead ∨ op.purpose = .lineWrite) :
    s.jc.step = some .rollingBack ∧ s.jc.scan = none ∧ s.jc.scrub = none ∧ s.jc.drain = [] ∧ s.anchors.op = none
      ∧ (s.jc.op = .abort ∨ s.jc.op = .recovery) ∧ ∃ rb, s.jc.rollback = some rb ∧ 0 ≤ rb.pos := by
  have hout := outstanding_of_current hone hcur
  have hdoes : ∀ {p}, s.journalDoes p → p = .rollbackRead ∨ p = .lineWrite := by
    rintro p ⟨op', h1, h2⟩
    rw [hout] at h1
    cases h1
    rwa [h2] at hp
  have hunit : ¬ (s.anchors.op ≠ none ∧ s.anchorWork) := by
    rintro ⟨hne, hw⟩
    unfold State.anchorWork at hw
    split at hw
    case h_5 hnone => exact absurd hnone hne
    all_goals simpa using hdoes hw
  unfold State.stepWork at h
  split at h
  case h_6 => obtain ⟨h1, h2, h3, h4, ⟨rb, h5, h6, -⟩, h7⟩ := h; exact ⟨‹_›, h1, h2, h3, h4, h7, rb, h5, h6⟩
  case h_4 | h_5 =>
    obtain ⟨-, -, -, -, ⟨sc, -, hd⟩, -⟩ := h
    have := hdoes hd
    split at this <;> simp at this
  case h_7 =>
    obtain ⟨-, -, -, -, hd, -⟩ := h
    simpa using hdoes hd
  case h_3 =>
    obtain ⟨-, -, -, -, hr, hw, -⟩ := h
    exact absurd ⟨fun he => by simp [Anchors.reading, he] at hr, hw⟩ hunit
  all_goals (exfalso; simp_all)

/-! ## Every event keeps the work -/

/-- The completion of another requester's operation leaves the Journal Controller's work as it is (R172). -/
theorem release_onDuty_of_other {s : State} {r : Requester} {op : MemOp} (h : s.onDuty)
    (hcur : s.arb.current = some (r, op)) (hr : r ≠ .journal) : s.release.onDuty :=
  onDuty_congr ⟨by simp, by simp, release_outstanding_journal hcur hr, by simp [State.inReset]⟩
    (fun op' hc => by simp [State.release] at hc) h

/-- With the Journal Controller's completed operation its hand is free, in the work it had (R172). -/
theorem release_handFree {s : State} {op : MemOp} (h : s.onDuty) (hcur : s.arb.current = some (.journal, op))
    {j : Journal} {x : Anchors} (hscan : j.scan = none) (hscrub : j.scrub = none) (hdrain : j.drain = [])
    (hunit : x.op = none) (hop : j.op = s.jc.op) (hst : j.state = s.jc.state) {m : Mem} :
    (((s.release.setMem m).setAnchors x).setJc j).handFree :=
  ⟨hscan, hscrub, hdrain, hunit, release_journalIdle h.2.2 hcur, by
    have := h.2.1
    unfold State.operationSound at this ⊢
    simp only [State.setJc_jc, hop, hst, this]⟩

theorem acceptance_handFree {s : State} (h : s.workSound) (ho : s.jc.op = .none) {st : JournalState} {op : LongOp}
    (hop : op = st.longOp) : (s.accept st op).handFree ∧ (s.accept st op).jc.rollback = none := by
  obtain ⟨⟨hscan, hscrub, hdrain, hunit, hidle, -⟩, hrb⟩ := handFree_of_noOperation h ho
  exact ⟨⟨hscan, hscrub, hdrain, hunit, hidle, hop⟩, hrb⟩

/-- A reset begins with the Journal Controller at nothing (R118, R119). -/
theorem beginReset_workSound (s : State) (why : StartCause) (cut : Nat) (x : Pins)
    (hx : (s.setPins x).inReset = true) : ((s.beginReset why cut).setPins x).workSound := by
  have hx' : ((s.beginReset why cut).setPins x).inReset = true := hx
  refine ⟨⟨rfl, rfl, rfl, rfl, rfl, rfl, fun h => ?_⟩, rfl, fun _ => ⟨rfl, rfl⟩, fun op hc => by cases hc⟩
  rw [hx'] at h
  cases h

/-- A reset ends with the read of copy A (R88, R118). -/
theorem endReset_onDuty {s : State} (h : s.handFree) (hrb : s.jc.rollback = none) : s.endReset.onDuty := by
  have hidle : s.outstanding .journal = none := h.idle
  refine ⟨⟨h.scan, h.scrub, hrb, h.drain, rfl, ⟨_, request_outstanding_self _ _ _, rfl⟩, rfl⟩, rfl, ?_⟩
  exact journalSingle_request (by exact hidle) _

theorem grantNow_onDuty {b : Arbiter} {s : State} (h : s.onDuty) : (s.grantNow b).onDuty := by
  refine onDuty_congr ⟨by simp, by simp, by simp, by simp [State.inReset]⟩ ?_ h
  obtain ⟨e, -⟩ | ⟨r, op, hc, hr, e⟩ := grantNow_cases b s
  · rw [e]; exact h.2.2
  · intro op' hop
    rw [e] at hop ⊢
    simp only [Option.some.injEq, Prod.mk.injEq] at hop
    obtain ⟨rfl, rfl⟩ := hop
    rfl

/-- The part as the selection of copy `k` with anchor `x` leaves it: its configuration loaded, and the anchor noted in
the working report (R88, R90, R123). -/
def State.chosen (s : State) (k : Copy) (x : Anchor) : State :=
  let s' := (s.setAnchors { s.anchors with newest := some k, seq := x.seq, heldA := none, op := none }).loadAnchor x
  s'.setJc { s'.jc with
    working := some { s.workingReport with anchor := some k, seq := x.seq, epoch := x.epoch, phase := x.phase } }

/-- The selection ends recovery UNFORMATTED, or takes an anchor and starts the scrub or the scan by its phase (R90,
R122, R123). -/
theorem selectAnchor_cases (s : State) (a b : Option Anchor) :
    (newestOf a b = none ∧ s.selectAnchor a b
        = (s.setAnchors { s.anchors with newest := none, seq := 0, heldA := none, op := none }).completeRecovery
            .unformatted .unformatted 0 0 s.workingReport)
      ∨ ∃ k x, newestOf a b = some k ∧ (a = some x ∨ b = some x)
        ∧ ((x.phase = .scrubbing ∧ s.selectAnchor a b = (s.chosen k x).startScrub)
          ∨ (x.phase = .opened ∧ s.selectAnchor a b = (s.chosen k x).startScan .scanning)) := by
  obtain ⟨hn, -, -⟩ | ⟨hn, x, rfl⟩ | ⟨hn, x, rfl⟩ := newestOf_cases a b
  · exact .inl ⟨hn, by simp only [State.selectAnchor, hn]⟩
  · refine .inr ⟨.a, x, hn, .inl rfl, ?_⟩
    cases hp : x.phase <;> simp only [State.selectAnchor, hn, hp] <;> simp [State.chosen, hp]
  · refine .inr ⟨.b, x, hn, .inr rfl, ?_⟩
    cases hp : x.phase <;> simp only [State.selectAnchor, hn, hp] <;> simp [State.chosen, hp]

/-- The selection goes on to the scrub or the scan, or ends the recovery (R90, R122, R123). -/
theorem selectAnchor_onDuty {s : State} (hscan : s.jc.scan = none) (hscrub : s.jc.scrub = none)
    (hrb : s.jc.rollback = none) (hdrain : s.jc.drain = []) (hidle : s.outstanding .journal = none)
    (hop : s.operationSound) (ho : s.jc.op = .recovery) (a b : Option Anchor) : (s.selectAnchor a b).onDuty := by
  have free : ∀ k x, (s.chosen k x).handFree := fun k x => ⟨hscan, hscrub, hdrain, rfl, hidle, hop⟩
  obtain ⟨-, e⟩ | ⟨k, x, -, -, ⟨-, e⟩ | ⟨-, e⟩⟩ := selectAnchor_cases s a b <;> rw [e]
  · exact completeRecovery_onDuty rfl (by rfl) (by exact hidle) _ _ _ _
  · have ho : (s.chosen k x).jc.op = .recovery := ho
    exact startScrub_onDuty (free k x) (by simp [ho]) fun hne => absurd hrb hne
  · exact startScan_onDuty (free k x) hrb (.inl ⟨rfl, ho⟩)

/-- A read copy is followed by the other, or by the selection (R88, R89). -/
theorem copyRead_onDuty {s : State} (hstep : s.jc.step = some .anchorSearch) (hscan : s.jc.scan = none)
    (hscrub : s.jc.scrub = none) (hrb : s.jc.rollback = none) (hdrain : s.jc.drain = [])
    (hidle : s.outstanding .journal = none) (hop : s.operationSound) (ho : s.jc.op = .recovery) (k : Copy)
    (a : Option Anchor) : (s.copyRead k a).onDuty := by
  cases k with
  | a =>
    refine ⟨?_, hop, journalSingle_request (by exact hidle) _⟩
    unfold State.stepWork
    simp only [State.copyRead, State.request_untouched, State.setAnchors_jc, hstep]
    exact ⟨hscan, hscrub, hrb, hdrain, rfl, ⟨_, request_outstanding_self _ _ _, rfl⟩, ho⟩
  | b =>
    exact selectAnchor_onDuty (s := s.setAnchors { s.anchors with validB := validity a }) hscan hscrub hrb hdrain hidle hop ho _ _

/-- A written copy lets the operation go on, or ends it (R91, R101, R102). -/
theorem anchorDone_onDuty {s : State} (h : s.handFree) (hrb : s.rollbackOwned)
    (hsteps : ((s.jc.step = some .advancing ∨ s.jc.step = some .wrapAnchor)
            ∧ (s.jc.op = .commit ∨ s.jc.op = .abort ∨ s.jc.op = .recovery))
        ∨ (s.jc.rollback = none
          ∧ ((s.jc.step = some .applyAnchor ∧ s.jc.op = .apply)
            ∨ ((s.jc.step = some .firstAnchor ∨ s.jc.step = some .secondAnchor) ∧ s.jc.op = .format)))) :
    s.anchorDone.onDuty := by
  unfold State.anchorDone
  obtain ⟨hstep | hstep, ho⟩ | ⟨hnone, ⟨hstep, ho⟩ | ⟨hstep | hstep, ho⟩⟩ := hsteps <;> simp only [hstep]
  · split
    · refine startScrub_onDuty h ?_ hrb
      obtain ho | ho | ho := ho <;> simp [ho]
    · exact completeAdvance_onDuty h ho _
  · exact completeAdvance_onDuty h ho _
  · exact completeApply_onDuty h
  · exact startFormatAnchor_onDuty (.inr rfl) h ho hnone
  · exact completeFormat_onDuty h

/-- A scrubbed slot is followed by the next one, or by the caller's anchor (R33, R102). -/
theorem scrubbed_onDuty {s : State} (hstep : s.jc.step = some .scrubbing) (hscan : s.jc.scan = none)
    (hdrain : s.jc.drain = []) (hunit : s.anchors.op = none) (hidle : s.outstanding .journal = none)
    (hop : s.operationSound) (ho : s.jc.op ≠ .none ∧ s.jc.op ≠ .apply) (hrb : s.rollbackOwned) (n : Nat) :
    (s.scrubbed n).onDuty := by
  have free : (s.setJc { s.jc with scrub := none }).handFree := ⟨hscan, rfl, hdrain, hunit, hidle, hop⟩
  unfold State.scrubbed
  dsimp only
  split
  · exact requestScrub_onDuty hstep hscan hdrain hunit hidle hop ho hrb
  · split
    · rename_i hf
      refine startFormatAnchor_onDuty (.inl rfl) free hf ?_
      by_contra hne
      simpa [hf] using hrb hne
    · rename_i hf
      refine startWrapAnchor_onDuty free ?_ hrb
      show s.jc.op = .commit ∨ s.jc.op = .abort ∨ s.jc.op = .recovery
      cases h : s.jc.op <;> simp_all

/-- A read slot is written back, or the rollback moves on (R105, R106). -/
theorem rollbackSlot_onDuty {s : State} (h : s.handFree) (hstep : s.jc.step = some .rollingBack)
    (ho : s.jc.op = .abort ∨ s.jc.op = .recovery) {rb : Rollback} (hrb : s.jc.rollback = some rb) (hpos : 0 ≤ rb.pos)
    (bs : List Byte) (merr : Bool) : (s.rollbackSlot rb bs merr).onDuty := by
  unfold State.rollbackSlot
  dsimp only
  split
  · refine ⟨?_, h.operation, journalSingle_request h.idle _⟩
    unfold State.stepWork
    simp only [State.request_untouched, hstep]
    exact ⟨h.scan, h.scrub, h.drain, h.unit,
      ⟨rb, hrb, hpos, .inr ⟨_, request_outstanding_self _ _ _, rfl⟩⟩, ho⟩
  · split <;> exact rollTo_onDuty h hstep ho _

/-- A refused capture is a response, which the drain may have waited for (R77, R82). -/
theorem refuseEntry_onDuty {s : State} (h : s.onDuty) (e : Entry) (why : Reason) : (s.refuseEntry e why).onDuty := by
  unfold State.refuseEntry
  dsimp only
  split
  · exact portResponded_onDuty (onDuty_of_eq h (by simp) (by simp) (by simp) (by simp) (by simp [State.inReset])) _
  · exact onDuty_of_eq h rfl rfl rfl rfl rfl

/-- The start of an accepted operation, and the decisions taken right after it (R17). -/
theorem accepted_onDuty {s : State} {k : Option Frame} (h : s.onDuty) : ((s.finishRetake).setFrame k).onDuty :=
  setFrame_onDuty (finishRetake_onDuty h) k

/-- Outside a reset every event but a reset's begin stays outside. -/
theorem Event_inReset {s t : State} {c : Instr} (h : s.Event c t) (hreset : s.inReset = false) :
    t.inReset = false ∨ ∃ why cut x, t = (s.beginReset why cut).setPins x ∧ (s.setPins x).inReset = true := by
  cases h with
  | follows _ _ hr | samples _ _ hr | ends _ _ _ _ hr => rw [hreset] at hr; cases hr
  | begins _ why cut x _ hx => exact .inr ⟨why, cut, x, rfl, hx⟩
  | softResets => left; simpa [State.inReset, State.beginReset, State.resetBlocks] using hreset
  | _ => left; simpa [State.inReset] using hreset

/-- A response of a host port leaves the work, and may end the drain (R82). -/
theorem respond_onDuty {s u : State} {p : Port} {op : MemOp} (h : s.onDuty)
    (hcur : s.arb.current = some (portRequester p, op)) (hjc : u.jc = s.jc) (ha : u.anchors = s.anchors)
    (harb : u.arb = s.release.arb) (hp : u.inReset = s.inReset) : (u.portResponded p).onDuty := by
  have hrel := release_onDuty_of_other h hcur (by cases p <;> simp [portRequester])
  refine portResponded_onDuty (onDuty_of_eq hrel ?_ ?_ ?_ ?_ ?_) p
  · simpa using hjc
  · simpa using ha
  · rw [harb]
  · rw [harb]
  · simpa [State.inReset] using hp

theorem lineReadDone_onDuty {s : State} (h : s.onDuty) (e : Entry) (op : MemOp) (merr : Bool) :
    (s.lineReadDone e op merr).onDuty := by
  unfold State.lineReadDone
  split
  · exact refuseEntry_onDuty h e _
  · exact onDuty_of_eq h rfl rfl rfl rfl rfl

theorem reserve_onDuty {s : State} (h : s.onDuty) (e : Entry) (image : List Byte) : (s.reserve e image).onDuty := by
  unfold State.reserve
  split
  · exact onDuty_of_eq h rfl rfl rfl rfl rfl
  · exact refuseEntry_onDuty h e _

/-- An accepted operation waits for its drain, or goes on at once with nothing to wait for (R17, R82). -/
theorem acceptedDrain_onDuty {s : State} (h : s.workSound) (ho : s.jc.op = .none) {st : JournalState} {op : LongOp}
    (hop : op = st.longOp) (hne : op ≠ .none ∧ op ≠ .recovery) (ports : List Port) (k : Option Frame) :
    ((((s.accept st op).startDrain ports).finishRetake).setFrame k).onDuty := by
  obtain ⟨free, hrb⟩ := acceptance_handFree h ho hop
  exact accepted_onDuty (startDrain_onDuty free hrb hne ports)

/-- The second part of a copy follows the first, in the step that writes the copy (R85, R91). -/
theorem secondPart_onDuty {s : State} {op : MemOp} (h : s.onDuty) (hcur : s.arb.current = some (.journal, op))
    (hne : s.anchors.op ≠ none) (hread : s.anchors.reading = false) (m : Mem) (k : Copy) (seq : Word) {op' : MemOp}
    (hp : op'.purpose = .anchorWriteSecond) :
    (((s.release.setMem m).setAnchors { s.anchors with op := some (.writeSecond k seq) }).request
      .journal op').onDuty := by
  obtain ⟨hstep, hop, hone⟩ := h
  obtain ⟨hscan, hscrub, hdrain, hrb, hs⟩ := writing_of_unit hstep hne hread
  have does : (((s.release.setMem m).setAnchors { s.anchors with op := some (.writeSecond k seq) }).request
      .journal op').journalDoes .anchorWriteSecond := ⟨_, request_outstanding_self _ _ _, hp⟩
  refine ⟨?_, hop, journalSingle_request (by exact release_journalIdle hone hcur) _⟩
  unfold State.stepWork
  obtain ⟨hs | hs, ho⟩ | ⟨hnone, ⟨hs, ho⟩ | ⟨hs | hs, ho⟩⟩ := hs <;>
    simp only [State.request_untouched, State.setAnchors_jc, State.setMem_jc, State.release_untouched, hs]
  · exact ⟨hscan, hscrub, hdrain, nofun, rfl, does, ho, hrb⟩
  · exact ⟨hscan, hscrub, hdrain, nofun, rfl, does, ho, hrb⟩
  · exact ⟨hscan, hscrub, hnone, hdrain, nofun, rfl, does, ho⟩
  · exact ⟨hscan, hscrub, hnone, hdrain, nofun, rfl, does, ho⟩
  · exact ⟨hscan, hscrub, hnone, hdrain, nofun, rfl, does, ho⟩

/-- Every event but a reset's leaves the Journal Controller at its work. -/
theorem Event_onDuty {s t : State} {c : Instr} (h : s.Event c t) (hw : s.workSound) (hreset : s.inReset = false) :
    t.onDuty ∨ ∃ why cut x, t = (s.beginReset why cut).setPins x ∧ (s.setPins x).inReset = true := by
  have hduty := (workSound_iff hreset).mp hw
  obtain ⟨hstep, hop, hone⟩ := id hduty
  have same : ∀ {u : State}, u.jc = s.jc → u.anchors = s.anchors → u.arb.current = s.arb.current →
      u.arb.journal = s.arb.journal → u.inReset = s.inReset → u.onDuty := onDuty_of_eq hduty
  have settled : ∀ {u : State}, u.onDuty → (u.settle s.arb).onDuty
      ∨ ∃ why cut x, u.settle s.arb = (s.beginReset why cut).setPins x ∧ (s.setPins x).inReset = true :=
    fun h => .inl (onDuty_settle h)
  cases h with
  | follows _ _ hr | samples _ _ hr | ends _ _ _ _ hr => rw [hreset] at hr; cases hr
  | begins _ why cut x _ hx => exact .inr ⟨why, cut, x, rfl, hx⟩
  | idles => exact .inl hduty
  | softResets cut => exact .inl (grantNow_onDuty (endReset_onDuty ⟨rfl, rfl, rfl, rfl, rfl, rfl⟩ rfl))
  | frames => exact .inl (onDuty_congr ⟨rfl, rfl, rfl, rfl⟩ hone hduty)
  | presents | responds => exact .inl (same (by simp) (by simp) (by simp) (by simp) (by simp [State.inReset]))
  | falls =>
    refine settled ?_
    exact finishRetake_onDuty (same (by simp) (by simp) (by simp) (by simp) (by simp [State.inReset]))
  | commits f k _ ho _ _ =>
    refine settled ?_
    exact acceptedDrain_onDuty hw ho rfl (by decide) _ k
  | aborts f k _ ho _ _ =>
    refine settled ?_
    exact acceptedDrain_onDuty hw ho rfl (by decide) _ k
  | formats f k _ ho _ _ _ _ =>
    refine settled ?_
    exact acceptedDrain_onDuty hw ho rfl (by decide) _ k
  | applies f k _ ho _ _ _ _ =>
    refine settled ?_
    exact acceptedDrain_onDuty hw ho rfl (by decide) _ k
  | commitsDamaged f k _ ho _ _ =>
    refine settled ?_
    obtain ⟨free, hrb⟩ := acceptance_handFree hw ho (st := .committing) rfl
    exact accepted_onDuty (startAdvance_onDuty free (.inl rfl) fun hne => absurd hrb hne)
  | abortsDamaged f k _ ho _ _ =>
    refine settled ?_
    obtain ⟨free, hrb⟩ := acceptance_handFree hw ho (st := .aborting) rfl
    exact accepted_onDuty (startScan_onDuty free hrb (.inr ⟨rfl, rfl⟩))
  | readCompletes p merr op _ hcur _ =>
    refine settled ?_
    exact respond_onDuty hduty hcur (by simp) (by simp) (by simp) (by simp [State.inReset])
  | writeCompletes p op _ hcur _ =>
    refine settled ?_
    exact respond_onDuty hduty hcur (by simp) (by simp) (by simp) (by simp [State.inReset])
  | lineRead merr op e _ hcur _ _ =>
    refine settled ?_
    exact lineReadDone_onDuty (release_onDuty_of_other hduty hcur (by simp)) e op merr
  | reserves =>
    refine settled ?_
    exact reserve_onDuty hduty _ _
  | recordWritten op e n _ hcur _ _ =>
    refine settled ?_
    have hrel := release_onDuty_of_other hduty hcur (by simp)
    refine onDuty_congr (s := s.release) ⟨?_, by simp, outstanding_congr (by simp) _, by simp [State.inReset]⟩
      (fun op' hc => by simp [State.release] at hc) hrel
    unfold State.countRecord
    dsimp only
    split <;> simp
  | firstPartRead merr op k _ hcur _ hunit =>
    refine settled ?_
    have hread : s.anchors.reading = true := by simp [Anchors.reading, hunit]
    obtain ⟨hs, hscan, hscrub, hrb, hdrain, ho⟩ := anchorSearch_of_reading hstep hread
    refine ⟨?_, hop, journalSingle_request (by exact release_journalIdle hone hcur) _⟩
    unfold State.stepWork
    simp only [State.request_untouched, State.setAnchors_jc, State.release_untouched, hs]
    exact ⟨hscan, hscrub, hrb, hdrain, rfl, ⟨_, request_outstanding_self _ _ _, rfl⟩, ho⟩
  | copyRead merr op k first m _ hcur _ hunit =>
    refine settled ?_
    have hread : s.anchors.reading = true := by simp [Anchors.reading, hunit]
    obtain ⟨hs, hscan, hscrub, hrb, hdrain, ho⟩ := anchorSearch_of_reading hstep hread
    exact copyRead_onDuty (s := s.release) hs hscan hscrub hrb hdrain (release_journalIdle hone hcur) hop ho _ _
  | firstPartWritten op k seq rest _ hcur _ hunit =>
    refine settled ?_
    have hread : s.anchors.reading = false := by simp [Anchors.reading, hunit]
    exact secondPart_onDuty hduty hcur (by simp [hunit]) hread _ k seq rfl
  | copyWritten op k seq _ hcur _ hunit =>
    refine settled ?_
    have hread : s.anchors.reading = false := by simp [Anchors.reading, hunit]
    obtain ⟨hscan, hscrub, hdrain, hrb, hs⟩ := writing_of_unit hstep (by simp [hunit]) hread
    exact anchorDone_onDuty ⟨hscan, hscrub, hdrain, rfl, release_journalIdle hone hcur, hop⟩ hrb hs
  | scrubs op n _ hcur _ hn =>
    refine settled ?_
    obtain ⟨hs, hscan, hdrain, hunit, ho1, ho2, hrb⟩ := scrubbing_of_scrub hstep (by simp [hn])
    exact scrubbed_onDuty (s := s.release.storeCells op) hs hscan hdrain hunit (release_journalIdle hone hcur) hop
      ⟨ho1, ho2⟩ hrb n
  | scans merr op sc _ hcur _ hsc =>
    refine settled ?_
    obtain ⟨hs, hscrub, hrb, hdrain, hunit⟩ := scansFor_of_scan hstep (by simp [hsc])
    exact scanSlot_onDuty (s := s.release) ⟨rfl, hscrub, hdrain, hunit, release_journalIdle hone hcur, hop⟩ hrb hs _ _ _
  | looksAhead merr op sc _ hcur _ hsc =>
    refine settled ?_
    obtain ⟨hs, hscrub, hrb, hdrain, hunit⟩ := scansFor_of_scan hstep (by simp [hsc])
    exact endScan_onDuty (s := s.release) ⟨rfl, hscrub, hdrain, hunit, release_journalIdle hone hcur, hop⟩
      (hs.symm.imp And.right And.right) _ _ _ _ _
  | rollsBack merr op rb _ hcur hpurpose hrb =>
    refine settled ?_
    obtain ⟨hs, hscan, hscrub, hdrain, hunit, ho, rb', hrb', hpos⟩ :=
      rollingBack_of_current hstep hone hcur (.inl hpurpose)
    rw [hrb] at hrb'
    cases hrb'
    exact rollbackSlot_onDuty (s := s.release) ⟨hscan, hscrub, hdrain, hunit, release_journalIdle hone hcur, hop⟩ hs ho
      hrb hpos _ _
  | restores op rb _ hcur hpurpose hrb =>
    refine settled ?_
    obtain ⟨hs, hscan, hscrub, hdrain, hunit, ho, -⟩ := rollingBack_of_current hstep hone hcur (.inr hpurpose)
    exact rollTo_onDuty (s := s.release.storeCells op)
      ⟨hscan, hscrub, hdrain, hunit, release_journalIdle hone hcur, hop⟩ hs ho _
  | _ => exact settled (same (by simp) (by simp) (by simp) (by simp) (by simp [State.inReset]))

/-- During a reset the Journal Controller works at nothing, and the reset's end starts recovery (R118). -/
theorem Event_workSound_of_reset {s t : State} {c : Instr} (h : s.Event c t) (hw : s.workSound)
    (hreset : s.inReset = true) : t.workSound := by
  obtain ⟨free, hrb, hst⟩ := handFree_of_reset hw hreset
  obtain ⟨hstep, hop, hnone, hone⟩ := hw
  have follows : ∀ {u : State}, s.sameWork u → u.journalSingle → u.workSound :=
    fun hu h1 => workSound_congr hu h1 ⟨hstep, hop, hnone, hone⟩
  cases h with
  | idles => exact ⟨hstep, hop, hnone, hone⟩
  | follows _ x _ hx => exact follows ⟨rfl, rfl, rfl, hx.trans hreset.symm⟩ hone
  | samples m x _ hx => exact follows ⟨rfl, rfl, rfl, hx.trans hreset.symm⟩ hone
  | begins _ why cut x _ hx => exact beginReset_workSound s why cut x hx
  | ends _ m x _ _ hover =>
    have free' : ((s.sampleStraps m).setPins x).handFree :=
      ⟨free.scan, free.scrub, free.drain, free.unit, free.idle, free.operation⟩
    refine (workSound_iff ?_).mpr (grantNow_onDuty (endReset_onDuty free' hrb))
    simpa [State.inReset] using hover
  | _ => simp_all

/-- Settles O56: outside a reset by the case analysis of the events, during one because nothing is under way. -/
theorem anOperationAlwaysHasItsWork : Obligations.AnOperationAlwaysHasItsWork := by
  intro c s t hw h
  have he := Event_of_exec h
  cases hreset : s.inReset with
  | true => exact Event_workSound_of_reset he hw hreset
  | false =>
    obtain hduty | ⟨why, cut, x, rfl, hx⟩ := Event_onDuty he hw hreset
    · obtain hr | ⟨why, cut, x, rfl, hx⟩ := Event_inReset he hreset
      · exact (workSound_iff hr).mpr hduty
      · exact beginReset_workSound s why cut x hx
    · exact beginReset_workSound s why cut x hx

end Sys2Proof.Machine
end

section
/-! PROOFS. When E changes (spec/01 section 1.2): every piece of work keeps it but the selection and the completing
anchor writes. -/
namespace Sys2Proof.Machine

open Sys2Proof

/-! ## The work that keeps E -/

@[simp] theorem writeAnchor_jc (s : State) (e : Word) (ph : Phase) (g : Geometry) (c : Setup) :
    (s.writeAnchor e ph g c).jc = s.jc := rfl

@[simp] theorem startAdvance_jc (s : State) : s.startAdvance.jc = { s.jc with step := some .advancing } := by
  unfold State.startAdvance
  dsimp only
  split <;> rfl

@[simp] theorem startApplyAnchor_jc (s : State) :
    s.startApplyAnchor.jc = { s.jc with step := some .applyAnchor } := rfl

@[simp] theorem startFormatAnchor_jc (s : State) (x : Step) :
    (s.startFormatAnchor x).jc = { s.jc with step := some x } := rfl

@[simp] theorem startWrapAnchor_jc (s : State) :
    s.startWrapAnchor.jc = { s.jc with step := some .wrapAnchor } := rfl

@[simp] theorem requestScrub_jc (s : State) (n : Nat) : (s.requestScrub n).jc = { s.jc with scrub := some n } := rfl

@[simp] theorem startScrub_jc (s : State) :
    s.startScrub.jc = { s.jc with fill := 0, step := some .scrubbing, scrub := some 0 } := rfl

@[simp] theorem endOperation_jc (s : State) (st : JournalState) (e : Word) (fill : Nat) (rec : LastOp) :
    (s.endOperation st e fill rec).jc
      = { s.jc with
          state := st, op := .none, epoch := e, fill := fill, step := none, drain := []
          scan := none, scrub := none, rollback := none, lastOp := some rec } := rfl

@[simp] theorem completeRecovery_jc (s : State) (o : RecoveryOutcome) (st : JournalState) (e : Word) (fill : Nat)
    (r : Report) :
    (s.completeRecovery o st e fill r).jc
      = { s.jc with
          state := st, op := .none, epoch := e, fill := fill, step := none, drain := []
          scan := none, scrub := none, rollback := none, working := none } := rfl

@[simp] theorem endRollback_epoch (s : State) (rb : Rollback) : (s.endRollback rb).jc.epoch = s.jc.epoch := by
  unfold State.endRollback
  repeat' split
  all_goals simp [State.abortDamaged]

@[simp] theorem rollTo_epoch (s : State) (rb : Rollback) : (s.rollTo rb).jc.epoch = s.jc.epoch := by
  unfold State.rollTo
  dsimp only
  split <;> simp

@[simp] theorem startRollback_epoch (s : State) : s.startRollback.jc.epoch = s.jc.epoch := by
  simp [State.startRollback, State.setStep]

@[simp] theorem endScan_epoch (s : State) (reason : StopReason) (cls : Option SlotClass) (k n line : Nat) :
    (s.endScan reason cls k n line).jc.epoch = s.jc.epoch := by
  unfold State.endScan
  dsimp only
  repeat' split
  all_goals simp [State.abortDamaged]

@[simp] theorem scanTo_epoch (s : State) (k : Nat) : (s.scanTo k).jc.epoch = s.jc.epoch := by
  unfold State.scanTo
  dsimp only
  split <;> simp

@[simp] theorem startScan_epoch (s : State) (x : Step) : (s.startScan x).jc.epoch = s.jc.epoch := by
  simp [State.startScan, State.setStep]

@[simp] theorem scanSlot_epoch (s : State) (k : Nat) (bs : List Byte) (merr : Bool) :
    (s.scanSlot k bs merr).jc.epoch = s.jc.epoch := by
  unfold State.scanSlot
  dsimp only
  repeat' split
  all_goals simp [State.lookAhead]

@[simp] theorem lookAheadSlot_epoch (s : State) (sc : Scan) (bs : List Byte) (merr : Bool) :
    (s.lookAheadSlot sc bs merr).jc.epoch = s.jc.epoch := by
  simp [State.lookAheadSlot]

@[simp] theorem rollbackSlot_epoch (s : State) (rb : Rollback) (bs : List Byte) (merr : Bool) :
    (s.rollbackSlot rb bs merr).jc.epoch = s.jc.epoch := by
  unfold State.rollbackSlot
  dsimp only
  repeat' split
  all_goals simp

@[simp] theorem scrubbed_epoch (s : State) (n : Nat) : (s.scrubbed n).jc.epoch = s.jc.epoch := by
  unfold State.scrubbed
  dsimp only
  repeat' split
  all_goals simp

@[simp] theorem drainDone_epoch (s : State) : s.drainDone.jc.epoch = s.jc.epoch := by
  unfold State.drainDone
  repeat' split
  all_goals simp [State.applyNotEmpty]

@[simp] theorem startDrain_epoch (s : State) (ports : List Port) : (s.startDrain ports).jc.epoch = s.jc.epoch := by
  unfold State.startDrain
  dsimp only
  split <;> simp

@[simp] theorem portResponded_epoch (s : State) (p : Port) : (s.portResponded p).jc.epoch = s.jc.epoch := by
  unfold State.portResponded
  dsimp only
  repeat' split
  all_goals simp

@[simp] theorem accept_epoch (s : State) (st : JournalState) (op : LongOp) :
    (s.accept st op).jc.epoch = s.jc.epoch := rfl

@[simp] theorem refuseEntry_epoch (s : State) (e : Entry) (why : Reason) :
    (s.refuseEntry e why).jc.epoch = s.jc.epoch := by
  unfold State.refuseEntry
  dsimp only
  split <;> simp

@[simp] theorem lineReadDone_epoch (s : State) (e : Entry) (op : MemOp) (merr : Bool) :
    (s.lineReadDone e op merr).jc.epoch = s.jc.epoch := by
  unfold State.lineReadDone
  split <;> simp

@[simp] theorem reserve_epoch (s : State) (e : Entry) (image : List Byte) :
    (s.reserve e image).jc.epoch = s.jc.epoch := by
  unfold State.reserve
  split <;> simp

@[simp] theorem countRecord_epoch (s : State) : s.countRecord.jc.epoch = s.jc.epoch := by
  unfold State.countRecord
  dsimp only
  split <;> simp

/-! ## The events that change E -/

/-- The completion of an epoch advance ends its operation in ACTIVE with the new epoch, or leaves E (R101). -/
theorem completeAdvance_epoch (s : State) (e : Word) :
    (s.completeAdvance e).jc.epoch = s.jc.epoch
      ∨ ((s.completeAdvance e).jc.epoch = e ∧ (s.completeAdvance e).jc.op = .none
        ∧ (s.completeAdvance e).jc.state = .active) := by
  unfold State.completeAdvance
  split
  · simp [State.completeCommit]
  · simp [State.completeAbort]
  · dsimp only
    split <;> simp
  all_goals simp

/-- A written copy leaves E, or ends the operation in ACTIVE with the next epoch or 1 (R4, R101, R145). -/
theorem anchorDone_epoch (s : State) :
    s.anchorDone.jc.epoch = s.jc.epoch
      ∨ ((s.anchorDone.jc.epoch = 1 ∨ s.anchorDone.jc.epoch = s.jc.epoch + 1) ∧ s.anchorDone.jc.op = .none
        ∧ s.anchorDone.jc.state = .active) := by
  have advance : ∀ e, e = 1 ∨ e = s.jc.epoch + 1 → (s.completeAdvance e).jc.epoch = s.jc.epoch
      ∨ (((s.completeAdvance e).jc.epoch = 1 ∨ (s.completeAdvance e).jc.epoch = s.jc.epoch + 1)
        ∧ (s.completeAdvance e).jc.op = .none ∧ (s.completeAdvance e).jc.state = .active) := by
    intro e he
    obtain h | ⟨h1, h2, h3⟩ := completeAdvance_epoch s e
    · exact .inl h
    · exact .inr ⟨by rw [h1]; exact he, h2, h3⟩
  unfold State.anchorDone
  split
  case h_1 =>
    split
    · simp
    · exact advance _ (.inr rfl)
  case h_2 => exact advance _ (.inl rfl)
  case h_3 => simp [State.completeApply]
  case h_5 => simp [State.completeFormat]
  all_goals simp

/-- Settles O52: by the case analysis of the events, each piece of work above keeping E. -/
theorem theEpochChangesOnlyAtItsEvents : Obligations.TheEpochChangesOnlyAtItsEvents := by
  intro c s t hw h hne
  have he := Event_of_exec h
  cases he with
  | begins _ why cut x hc =>
    exact .inl ⟨rfl, rfl, cut, hc.imp_right .inl⟩
  | softResets cut => exact .inl ⟨by simp [State.endReset, State.beginReset, State.resetBlocks],
      by simp [State.endReset], cut, .inr (.inr rfl)⟩
  | ends c m x _ hreset => exact absurd (by simp [State.endReset]) hne
  | copyRead merr op k first m _ _ _ hunit =>
    have hread : s.anchors.reading = true := by simp [Anchors.reading, hunit]
    obtain ⟨-, -, -, -, -, ho⟩ := anchorSearch_of_reading hw.1 hread
    have hst : s.jc.state.longOp = .recovery := hw.2.1 ▸ ho
    refine .inr (.inl ⟨?_, merr, rfl⟩)
    cases hs : s.jc.state <;> simp_all [JournalState.longOp]
  | copyWritten op k seq =>
    obtain h | ⟨h1, h2, h3⟩ := anchorDone_epoch
      ((s.release.storeCells op).setAnchors { s.anchors with newest := some k, seq := seq, op := none })
    · exact absurd (by simpa using h) hne
    · exact .inr (.inr ⟨rfl, by simpa using h2, by simpa using h3, by simpa using h1⟩)
  | _ => exact absurd (by simp) hne

end Sys2Proof.Machine
end

section
/-! PROOFS. The configuration under the work of the Journal Controller and the host ports: which events leave every copy
of it, the fence and the filter's rules alone (R45, R48, R148). -/
namespace Sys2Proof.Machine

open Sys2Proof

/-- From s to t the configuration and its copies stay, the staging image stays or is set anew by the end of a recovery,
the filter stays or is cleared, and no copy begins to be read (R45, R52, R88, R131). -/
structure State.keepsConfig (s t : State) : Prop where
  memSize : t.memSize = s.memSize
  pins : t.pins = s.pins
  decoder : t.decoder = s.decoder
  fence : t.fence = s.fence
  geom : t.jc.geom = s.jc.geom
  store : t.store = s.store ∨ (t.store = s.store.restage ∧ t.jc.op = .none)
  operation : t.jc.op = .format → s.jc.op = .format
  held : t.anchors.heldA = s.anchors.heldA
  reading : t.anchors.reading = true → s.anchors.reading = true
  filter : t.filter = s.filter ∨ t.filter = .empty

theorem keepsConfig_refl (s : State) : s.keepsConfig s :=
  ⟨rfl, rfl, rfl, rfl, rfl, .inl rfl, id, rfl, id, .inl rfl⟩

@[simp] theorem restage_restage (c : Store) : c.restage.restage = c.restage := by
  unfold Store.restage
  cases c.geom <;> rfl

/-- Two stretches of work, of which only the last may end a recovery. -/
theorem keepsConfig_trans {s u t : State} (h : s.keepsConfig u) (hs : u.store = s.store) (h' : u.keepsConfig t) :
    s.keepsConfig t where
  memSize := h'.memSize.trans h.memSize
  pins := h'.pins.trans h.pins
  decoder := h'.decoder.trans h.decoder
  fence := h'.fence.trans h.fence
  geom := h'.geom.trans h.geom
  store := hs ▸ h'.store
  operation := h.operation ∘ h'.operation
  held := h'.held.trans h.held
  reading := h.reading ∘ h'.reading
  filter := by
    obtain e | e := h'.filter
    · rw [e]; exact h.filter
    · exact .inr e

/-- Work that changes nothing of the configuration, the staging image and the Anchor Unit at all. -/
theorem keepsConfig_of_eq {s t : State} (hpins : t.pins = s.pins) (hmem : t.memSize = s.memSize)
    (hdec : t.decoder = s.decoder) (hfence : t.fence = s.fence) (hstore : t.store = s.store)
    (hanchors : t.anchors = s.anchors) (hfilter : t.filter = s.filter) (hgeom : t.jc.geom = s.jc.geom)
    (hop : t.jc.op = s.jc.op) : s.keepsConfig t :=
  ⟨hmem, hpins, hdec, hfence, hgeom, .inl hstore, fun h => hop ▸ h, by rw [hanchors], fun h => hanchors ▸ h,
    .inl hfilter⟩

theorem keepsConfig_settle {b : Arbiter} {s t : State} (h : s.keepsConfig t) : s.keepsConfig (t.settle b) := by
  obtain ⟨h1, h2, h3, h4, h5, h6, h7, h8, h9, h10⟩ := h
  exact ⟨by simpa, by simpa, by simpa, by simpa, by simpa, by simpa, by simpa, by simpa, by simpa, by simpa⟩

theorem keepsConfig_setFrame {s t : State} (h : s.keepsConfig t) (k : Option Frame) : s.keepsConfig (t.setFrame k) :=
  ⟨h.memSize, h.pins, h.decoder, h.fence, h.geom, h.store, h.operation, h.held, h.reading, h.filter⟩

/-- The decisions of the host ports leave the configuration (R63, R70). -/
theorem keepsConfig_finishRetake {s t : State} (h : s.keepsConfig t) : s.keepsConfig t.finishRetake := by
  obtain ⟨h1, h2, h3, h4, h5, h6, h7, h8, h9, h10⟩ := h
  exact ⟨by simpa, by simpa, by simpa, by simpa, by simpa, by simpa, by simpa, by simpa, by simpa, by simpa⟩

theorem keepsConfig_retake {s t : State} (h : s.keepsConfig t) : s.keepsConfig t.retake := by
  obtain ⟨h1, h2, h3, h4, h5, h6, h7, h8, h9, h10⟩ := h
  exact ⟨by simpa, by simpa, by simpa, by simpa, by simpa, by simpa, by simpa, by simpa, by simpa, by simpa⟩

/-! ## The work of the Journal Controller -/

/-- An anchor write is no read of a copy, and takes nothing but the Anchor Unit's work (R91). -/
theorem writeAnchor_keepsConfig (s : State) (x : Step) (e : Word) (ph : Phase) (g : Geometry) (c : Setup) :
    s.keepsConfig ((s.setStep x).writeAnchor e ph g c) :=
  ⟨rfl, rfl, rfl, rfl, rfl, .inl rfl, id, rfl, fun h => by simp [State.writeAnchor, Anchors.reading] at h, .inl rfl⟩

theorem startAdvance_keepsConfig (s : State) : s.keepsConfig s.startAdvance := by
  unfold State.startAdvance
  dsimp only
  split <;> exact writeAnchor_keepsConfig s _ _ _ _ _

theorem requestScrub_keepsConfig (s : State) (n : Nat) : s.keepsConfig (s.requestScrub n) :=
  keepsConfig_of_eq rfl rfl rfl rfl rfl rfl rfl rfl rfl

theorem startScrub_keepsConfig (s : State) : s.keepsConfig s.startScrub :=
  ⟨rfl, rfl, rfl, rfl, rfl, .inl rfl, id, rfl, id, .inr rfl⟩

theorem endOperation_keepsConfig (s : State) (st : JournalState) (e : Word) (fill : Nat) (rec : LastOp) :
    s.keepsConfig (s.endOperation st e fill rec) :=
  ⟨rfl, rfl, rfl, rfl, rfl, .inl rfl, nofun, rfl, id, .inl rfl⟩

theorem completeRecovery_keepsConfig (s : State) (o : RecoveryOutcome) (st : JournalState) (e : Word) (fill : Nat)
    (r : Report) : s.keepsConfig (s.completeRecovery o st e fill r) :=
  ⟨rfl, rfl, rfl, rfl, rfl, .inr ⟨rfl, rfl⟩, nofun, rfl, id, .inl rfl⟩

theorem setFilter_keepsConfig (s : State) : s.keepsConfig (s.setFilter .empty) :=
  ⟨rfl, rfl, rfl, rfl, rfl, .inl rfl, id, rfl, id, .inr rfl⟩

theorem completeAdvance_keepsConfig (s : State) (e : Word) : s.keepsConfig (s.completeAdvance e) := by
  have emptied {t} : (s.setFilter .empty).keepsConfig t → s.keepsConfig t :=
    keepsConfig_trans (setFilter_keepsConfig s) rfl
  unfold State.completeAdvance
  split
  · exact keepsConfig_retake (emptied (endOperation_keepsConfig _ _ _ _ _))
  · exact emptied (endOperation_keepsConfig _ _ _ _ _)
  · dsimp only
    split <;> exact emptied (completeRecovery_keepsConfig _ _ _ _ _ _)
  all_goals exact keepsConfig_refl s

theorem endRollback_keepsConfig (s : State) (rb : Rollback) : s.keepsConfig (s.endRollback rb) := by
  unfold State.endRollback
  repeat' split
  · exact startAdvance_keepsConfig s
  · exact completeRecovery_keepsConfig _ _ _ _ _ _
  · exact endOperation_keepsConfig _ _ _ _ _

/-- Work that changes items of the Journal Controller alone, with more work to come. -/
theorem setJc_keepsConfig {s t : State} {j : Journal} (h : (s.setJc j).keepsConfig t) (hgeom : j.geom = s.jc.geom)
    (hop : j.op = s.jc.op) : s.keepsConfig t :=
  keepsConfig_trans (u := s.setJc j) (keepsConfig_of_eq rfl rfl rfl rfl rfl rfl rfl hgeom hop) rfl h

/-- A read that the Journal Controller requests (R125, R105). -/
theorem request_keepsConfig (s : State) (r : Requester) (op : MemOp) : s.keepsConfig (s.request r op) :=
  keepsConfig_of_eq rfl rfl rfl rfl rfl rfl rfl rfl rfl

theorem rollTo_keepsConfig (s : State) (rb : Rollback) : s.keepsConfig (s.rollTo rb) := by
  unfold State.rollTo
  dsimp only
  split
  · exact setJc_keepsConfig (request_keepsConfig _ _ _) rfl rfl
  · exact setJc_keepsConfig (endRollback_keepsConfig _ _) rfl rfl

theorem startRollback_keepsConfig (s : State) : s.keepsConfig s.startRollback := by
  unfold State.startRollback State.setStep
  exact setJc_keepsConfig (rollTo_keepsConfig _ _) rfl rfl

theorem endScan_keepsConfig (s : State) (reason : StopReason) (cls : Option SlotClass) (k n line : Nat) :
    s.keepsConfig (s.endScan reason cls k n line) := by
  have start : s.keepsConfig ((s.setJc { s.jc with fill := k, scan := none }).setFilter .empty) :=
    setJc_keepsConfig (setFilter_keepsConfig _) rfl rfl
  unfold State.endScan
  dsimp only
  refine keepsConfig_trans start rfl ?_
  repeat' split
  · exact setJc_keepsConfig (completeRecovery_keepsConfig _ _ _ _ _ _) rfl rfl
  · exact setJc_keepsConfig (completeRecovery_keepsConfig _ _ _ _ _ _) rfl rfl
  · exact setJc_keepsConfig (startRollback_keepsConfig _) rfl rfl
  · exact endOperation_keepsConfig _ _ _ _ _
  · exact startRollback_keepsConfig _

theorem scanTo_keepsConfig (s : State) (k : Nat) : s.keepsConfig (s.scanTo k) := by
  unfold State.scanTo
  dsimp only
  split
  · exact setJc_keepsConfig (request_keepsConfig _ _ _) rfl rfl
  · exact setJc_keepsConfig (endScan_keepsConfig _ _ _ _ _ _) rfl rfl

theorem startScan_keepsConfig (s : State) (x : Step) : s.keepsConfig (s.startScan x) := by
  unfold State.startScan State.setStep
  exact setJc_keepsConfig (scanTo_keepsConfig _ _) rfl rfl

theorem scanSlot_keepsConfig (s : State) (k : Nat) (bs : List Byte) (merr : Bool) :
    s.keepsConfig (s.scanSlot k bs merr) := by
  unfold State.scanSlot
  dsimp only
  repeat' split
  · exact scanTo_keepsConfig _ _
  · exact setJc_keepsConfig (request_keepsConfig _ _ _) rfl rfl
  · exact endScan_keepsConfig _ _ _ _ _ _
  · exact endScan_keepsConfig _ _ _ _ _ _

theorem rollbackSlot_keepsConfig (s : State) (rb : Rollback) (bs : List Byte) (merr : Bool) :
    s.keepsConfig (s.rollbackSlot rb bs merr) := by
  unfold State.rollbackSlot
  dsimp only
  repeat' split
  · exact request_keepsConfig _ _ _
  · exact rollTo_keepsConfig _ _
  · exact rollTo_keepsConfig _ _

theorem scrubbed_keepsConfig (s : State) (n : Nat) : s.keepsConfig (s.scrubbed n) := by
  unfold State.scrubbed
  dsimp only
  repeat' split
  · exact requestScrub_keepsConfig _ _
  · exact setJc_keepsConfig (writeAnchor_keepsConfig _ _ _ _ _ _) rfl rfl
  · exact setJc_keepsConfig (writeAnchor_keepsConfig _ _ _ _ _ _) rfl rfl

theorem drainDone_keepsConfig (s : State) : s.keepsConfig s.drainDone := by
  unfold State.drainDone
  repeat' split
  · exact startAdvance_keepsConfig s
  · exact startRollback_keepsConfig s
  · exact writeAnchor_keepsConfig s _ _ _ _ _
  · exact keepsConfig_retake (endOperation_keepsConfig _ _ _ _ _)
  · exact startScrub_keepsConfig s
  · exact keepsConfig_refl s
  · exact keepsConfig_refl s

theorem startDrain_keepsConfig (s : State) (ports : List Port) : s.keepsConfig (s.startDrain ports) := by
  unfold State.startDrain
  dsimp only
  split
  · exact setJc_keepsConfig (drainDone_keepsConfig _) rfl rfl
  · exact setJc_keepsConfig (keepsConfig_refl _) rfl rfl

theorem portResponded_keepsConfig (s : State) (p : Port) : s.keepsConfig (s.portResponded p) := by
  unfold State.portResponded
  dsimp only
  repeat' split
  · exact setJc_keepsConfig (drainDone_keepsConfig _) rfl rfl
  · exact setJc_keepsConfig (keepsConfig_refl _) rfl rfl
  · exact keepsConfig_refl s

/-! ## The work of the Capture Engine -/

theorem refuseEntry_keepsConfig (s : State) (e : Entry) (why : Reason) : s.keepsConfig (s.refuseEntry e why) := by
  unfold State.refuseEntry
  dsimp only
  split
  · refine keepsConfig_trans ?_ (by simp) (portResponded_keepsConfig _ _)
    exact keepsConfig_of_eq (by simp) (by simp) (by simp) (by simp) (by simp) (by simp) (by simp) (by simp) (by simp)
  · exact keepsConfig_of_eq rfl rfl rfl rfl rfl rfl rfl rfl rfl

theorem lineReadDone_keepsConfig (s : State) (e : Entry) (op : MemOp) (merr : Bool) :
    s.keepsConfig (s.lineReadDone e op merr) := by
  unfold State.lineReadDone
  split
  · exact refuseEntry_keepsConfig s e _
  · exact keepsConfig_of_eq rfl rfl rfl rfl rfl rfl rfl rfl rfl

theorem reserve_keepsConfig (s : State) (e : Entry) (image : List Byte) : s.keepsConfig (s.reserve e image) := by
  unfold State.reserve
  split
  · exact keepsConfig_of_eq rfl rfl rfl rfl rfl rfl rfl rfl rfl
  · exact refuseEntry_keepsConfig s e _

theorem countRecord_keepsConfig (s : State) : s.keepsConfig s.countRecord := by
  unfold State.countRecord
  dsimp only
  split <;> exact keepsConfig_of_eq rfl rfl rfl rfl rfl rfl rfl rfl rfl

/-! ## What stays with the configuration -/

/-- The filter's rules hold of a cleared filter (R48, R54). -/
theorem filterSound_of_keepsConfig {s t : State} (h : s.keepsConfig t) (hs : s.filterSound) : t.filterSound := by
  unfold State.filterSound at hs ⊢
  obtain e | e := h.filter
  · rwa [e]
  · rw [e]; simp [Filter.empty]

theorem fenceSound_of_keepsConfig {s t : State} (h : s.keepsConfig t) (hs : s.fenceSound) : t.fenceSound := by
  obtain ⟨h1, h2, h3⟩ := hs
  unfold State.fenceSound State.inReset at *
  rw [h.fence, h.pins]
  exact ⟨h1, h2, h3 ∘ h.reading⟩

@[simp] theorem restage_geom (c : Store) : c.restage.geom = c.geom := by
  unfold Store.restage
  cases c.geom <;> simp

@[simp] theorem restage_active (c : Store) : c.restage.active = c.active := by
  unfold Store.restage
  cases c.geom <;> rfl

/-- The active configuration stays, whatever becomes of the staging image. -/
theorem keepsConfig_active {s t : State} (h : s.keepsConfig t) :
    t.store.geom = s.store.geom ∧ t.store.active = s.store.active := by
  obtain e | ⟨e, -⟩ := h.store <;> simp [e]

theorem copiesSound_of_keepsConfig {s t : State} (h : s.keepsConfig t) (hs : s.copiesSound) : t.copiesSound := by
  obtain ⟨hg, ha⟩ := keepsConfig_active h
  unfold State.copiesSound State.inReset at *
  rwa [h.fence, h.pins, h.decoder, h.memSize, h.geom, hg, ha]

end Sys2Proof.Machine
end

section
/-! PROOFS. Decisions that held writes retake, and the work of the Journal Controller, as far as the host ports, the
Capture Engine and the Memory Arbiter see them (R70, R82, R174). -/
namespace Sys2Proof.Machine

open Sys2Proof

/-! ## Decisions taken at one event -/

/-- From s to t ports that stand in DECIDING or hold their write take their decisions, one after the other, or come to
stand in DECIDING (R63, R70). -/
inductive State.Decides (s : State) : State → Prop
  | none : s.Decides s
  | asks {t : State} (h : s.Decides t) : s.Decides t.asked
  | decides {t : State} (h : s.Decides t) (p : Port) (hp : (t.port p).stage = .deciding ∨ (t.port p).stage = .held) :
      s.Decides (t.takeDecision p)
  | stands {t : State} (h : s.Decides t) (p : Port) (hp : (t.port p).stage = .held) : s.Decides (t.deciding p)

theorem Decides_trans {s t u : State} (h : s.Decides t) (h' : t.Decides u) : s.Decides u := by
  induction h' with
  | none => exact h
  | asks _ ih => exact .asks ih
  | decides _ p hp ih => exact .decides ih p hp
  | stands _ p hp ih => exact .stands ih p hp

/-- What holds before decisions are taken, and through each, holds after them. -/
theorem Decides_atPorts {f : State → Port → State} (hf : ∀ (s : State) p, s.Decides (f s p)) (s : State) (both : Prop)
    [Decidable both] : s.Decides (s.atPorts both f) := by
  unfold State.atPorts
  split
  · split <;> exact Decides_trans (Decides_trans (.asks .none) (hf _ _)) (hf _ _)
  · exact Decides_trans (hf _ _) (hf _ _)

theorem Decides_retakeOne (s : State) (p : Port) : s.Decides (s.retakeOne p) := by
  unfold State.retakeOne
  split
  · exact .decides .none p (.inr (by assumption))
  · exact .none

theorem Decides_retake (s : State) : s.Decides s.retake := Decides_atPorts Decides_retakeOne s _

theorem Decides_retakeOneAtFence (b : Bool) (s : State) (p : Port) : s.Decides (State.retakeOneAtFence b s p) := by
  obtain ⟨-, h⟩ | ⟨hp, h | ⟨-, h | h⟩⟩ := retakeOneAtFence_cases b s p <;> rw [h]
  · exact .none
  · exact .decides .none p (.inr hp)
  · exact .decides (.asks .none) p (.inr (by cases p <;> simpa [State.port] using hp))
  · exact .stands (.asks .none) p (by cases p <;> simpa [State.port] using hp)

theorem Decides_retakeAtFence (s : State) (b : Bool) : s.Decides (s.retakeAtFence b) :=
  Decides_atPorts (Decides_retakeOneAtFence b) s _

theorem Decides_finishRetakeOne (s : State) (p : Port) : s.Decides (s.finishRetakeOne p) := by
  unfold State.finishRetakeOne
  split
  · rename_i h
    refine .decides .none p (.inl ?_)
    simp only [State.retaking, Bool.and_eq_true, decide_eq_true_eq] at h
    exact h.1
  · exact .none

theorem Decides_finishRetake (s : State) : s.Decides s.finishRetake := Decides_atPorts Decides_finishRetakeOne s _

/-- Decisions leave all but the ports, the engine's queue, the ports' requests and the attention (R63). -/
theorem Decides_untouched {s t : State} (h : s.Decides t) :
    t.pins = s.pins ∧ t.memSize = s.memSize ∧ t.jc = s.jc ∧ t.filter = s.filter ∧ t.anchors = s.anchors
      ∧ t.store = s.store ∧ t.decoder = s.decoder ∧ t.fence = s.fence ∧ t.frame = s.frame ∧ t.mem = s.mem
      ∧ t.pending = s.pending ∧ t.arb.current = s.arb.current ∧ t.arb.capture = s.arb.capture
      ∧ t.arb.journal = s.arb.journal ∧ t.arb.pointer = s.arb.pointer := by
  induction h with
  | none => simp
  | asks _ ih => simpa using ih
  | decides _ p _ ih => simpa using ih
  | stands _ p _ ih => simpa using ih

/-! ## What the Journal Controller's work leaves -/

/-- From s to t only the Journal Controller has worked: the ports, the Capture Engine and what they have at the arbiter
stay, the journal's request is of its own kind, and the drain waits for no port more (R82, R174). -/
structure State.journalOnly (s t : State) : Prop where
  engine : t.engine = s.engine
  portA : t.portA = s.portA
  portB : t.portB = s.portB
  current : t.arb.current = s.arb.current
  pointer : t.arb.pointer = s.arb.pointer
  others : t.arb.a = s.arb.a ∧ t.arb.b = s.arb.b ∧ t.arb.capture = s.arb.capture
  journal : t.arb.journal = s.arb.journal ∨ ∃ op, t.arb.journal = some op ∧ op.purpose.servedBy .journal = true
  drain : ∀ p ∈ t.jc.drain, p ∈ s.jc.drain

theorem journalOnly_trans {s u t : State} (h : s.journalOnly u) (h' : u.journalOnly t) : s.journalOnly t where
  engine := h'.engine.trans h.engine
  portA := h'.portA.trans h.portA
  portB := h'.portB.trans h.portB
  current := h'.current.trans h.current
  pointer := h'.pointer.trans h.pointer
  others := ⟨h'.others.1.trans h.others.1, h'.others.2.1.trans h.others.2.1, h'.others.2.2.trans h.others.2.2⟩
  journal := by
    obtain e | e := h'.journal
    · rw [e]; exact h.journal
    · exact .inr e
  drain := fun p hp => h.drain p (h'.drain p hp)

/-- Work that leaves the host side and the arbiter as they are. -/
theorem journalOnly_of_arb {s t : State} (hengine : t.engine = s.engine) (ha : t.portA = s.portA)
    (hb : t.portB = s.portB) (harb : t.arb = s.arb) (hdrain : ∀ p ∈ t.jc.drain, p ∈ s.jc.drain) : s.journalOnly t :=
  ⟨hengine, ha, hb, by rw [harb], by rw [harb], by simp [harb], .inl (by rw [harb]), hdrain⟩

/-- A request of the Journal Controller (R174). -/
theorem request_journalOnly (s : State) {op : MemOp} (h : op.purpose.servedBy .journal = true) :
    s.journalOnly (s.request .journal op) :=
  ⟨rfl, rfl, rfl, rfl, rfl, ⟨rfl, rfl, rfl⟩, .inr ⟨op, rfl, h⟩, fun _ h => h⟩

/-- The Journal Controller has worked, and then held writes may have retaken their decisions (R70). -/
def State.works (s t : State) : Prop := ∃ u, s.journalOnly u ∧ u.Decides t

theorem works_of_journalOnly {s t : State} (h : s.journalOnly t) : s.works t := ⟨t, h, .none⟩

theorem works_retake {s u : State} (h : s.journalOnly u) : s.works u.retake := ⟨u, h, Decides_retake u⟩

theorem works_after {s u t : State} (h : s.journalOnly u) (h' : u.works t) : s.works t := by
  obtain ⟨v, hv, hd⟩ := h'
  exact ⟨v, journalOnly_trans h hv, hd⟩

/-- Items of the Journal Controller change, with more work to come. -/
theorem setJc_works {s t : State} {j : Journal} (h : (s.setJc j).works t) (hdrain : ∀ p ∈ j.drain, p ∈ s.jc.drain) : s.works t :=
  works_after (u := s.setJc j) (journalOnly_of_arb rfl rfl rfl rfl hdrain) h

theorem setJc_journalOnly {s t : State} {j : Journal} (h : (s.setJc j).journalOnly t)
    (hdrain : ∀ p ∈ j.drain, p ∈ s.jc.drain) : s.journalOnly t :=
  journalOnly_trans (u := s.setJc j) (journalOnly_of_arb rfl rfl rfl rfl hdrain) h

theorem writeAnchor_journalOnly (s : State) (x : Step) (e : Word) (ph : Phase) (g : Geometry) (c : Setup) :
    s.journalOnly ((s.setStep x).writeAnchor e ph g c) :=
  ⟨rfl, rfl, rfl, rfl, rfl, ⟨rfl, rfl, rfl⟩, .inr ⟨_, rfl, rfl⟩, fun _ h => h⟩

theorem startAdvance_journalOnly (s : State) : s.journalOnly s.startAdvance := by
  unfold State.startAdvance
  dsimp only
  split <;> exact writeAnchor_journalOnly s _ _ _ _ _

theorem requestScrub_journalOnly (s : State) (n : Nat) : s.journalOnly (s.requestScrub n) :=
  setJc_journalOnly (request_journalOnly _ rfl) (fun _ h => h)

theorem startScrub_journalOnly (s : State) : s.journalOnly s.startScrub :=
  journalOnly_trans (u := (s.setJc { s.jc with fill := 0, step := some .scrubbing }).setFilter .empty)
    (journalOnly_of_arb rfl rfl rfl rfl (fun _ h => h)) (requestScrub_journalOnly _ 0)

theorem endOperation_journalOnly (s : State) (st : JournalState) (e : Word) (fill : Nat) (rec : LastOp) :
    s.journalOnly (s.endOperation st e fill rec) :=
  journalOnly_of_arb rfl rfl rfl rfl (fun _ h => absurd h List.not_mem_nil)

theorem completeRecovery_journalOnly (s : State) (o : RecoveryOutcome) (st : JournalState) (e : Word) (fill : Nat)
    (r : Report) : s.journalOnly (s.completeRecovery o st e fill r) :=
  journalOnly_of_arb rfl rfl rfl rfl (fun _ h => absurd h List.not_mem_nil)

theorem adoptFence_journalOnly (s : State) (c : Setup) : s.journalOnly (s.adoptFence c) := by
  unfold State.adoptFence
  split <;> exact journalOnly_of_arb rfl rfl rfl rfl (fun _ h => h)

theorem setFilter_journalOnly (s : State) (x : Filter) : s.journalOnly (s.setFilter x) :=
  journalOnly_of_arb rfl rfl rfl rfl (fun _ h => h)

theorem completeAdvance_works (s : State) (e : Word) : s.works (s.completeAdvance e) := by
  have emptied := setFilter_journalOnly s .empty
  unfold State.completeAdvance
  split
  · exact works_retake (journalOnly_trans emptied (endOperation_journalOnly _ _ _ _ _))
  · exact works_of_journalOnly (journalOnly_trans emptied (endOperation_journalOnly _ _ _ _ _))
  · dsimp only
    split <;> exact works_of_journalOnly (journalOnly_trans emptied (completeRecovery_journalOnly _ _ _ _ _ _))
  all_goals exact ⟨s, journalOnly_of_arb rfl rfl rfl rfl (fun _ h => h), .none⟩

theorem completeApply_works (s : State) : s.works s.completeApply := by
  unfold State.completeApply
  refine works_retake (journalOnly_trans (journalOnly_trans ?_ (adoptFence_journalOnly _ _))
    (endOperation_journalOnly _ _ _ _ _))
  exact journalOnly_of_arb rfl rfl rfl rfl (fun _ h => h)

theorem completeFormat_works (s : State) : s.works s.completeFormat := by
  unfold State.completeFormat
  refine works_retake (journalOnly_trans (journalOnly_trans ?_ (adoptFence_journalOnly _ _))
    (setJc_journalOnly (endOperation_journalOnly _ _ _ _ _) (fun _ h => h)))
  exact journalOnly_of_arb rfl rfl rfl rfl (fun _ h => h)

theorem endRollback_journalOnly (s : State) (rb : Rollback) : s.journalOnly (s.endRollback rb) := by
  unfold State.endRollback
  repeat' split
  · exact startAdvance_journalOnly s
  · exact completeRecovery_journalOnly _ _ _ _ _ _
  · exact endOperation_journalOnly _ _ _ _ _

theorem rollTo_journalOnly (s : State) (rb : Rollback) : s.journalOnly (s.rollTo rb) := by
  unfold State.rollTo
  dsimp only
  split
  · exact setJc_journalOnly (request_journalOnly _ rfl) (fun _ h => h)
  · exact setJc_journalOnly (endRollback_journalOnly _ _) (fun _ h => h)

theorem startRollback_journalOnly (s : State) : s.journalOnly s.startRollback := by
  unfold State.startRollback State.setStep
  exact setJc_journalOnly (rollTo_journalOnly _ _) (fun _ h => h)

theorem endScan_journalOnly (s : State) (reason : StopReason) (cls : Option SlotClass) (k n line : Nat) :
    s.journalOnly (s.endScan reason cls k n line) := by
  have start : s.journalOnly ((s.setJc { s.jc with fill := k, scan := none }).setFilter .empty) :=
    setJc_journalOnly (setFilter_journalOnly _ _) (fun _ h => h)
  unfold State.endScan
  dsimp only
  refine journalOnly_trans start ?_
  repeat' split
  · exact setJc_journalOnly (completeRecovery_journalOnly _ _ _ _ _ _) (fun _ h => h)
  · exact setJc_journalOnly (completeRecovery_journalOnly _ _ _ _ _ _) (fun _ h => h)
  · exact setJc_journalOnly (startRollback_journalOnly _) (fun _ h => h)
  · exact endOperation_journalOnly _ _ _ _ _
  · exact startRollback_journalOnly _

theorem scanTo_journalOnly (s : State) (k : Nat) : s.journalOnly (s.scanTo k) := by
  unfold State.scanTo
  dsimp only
  split
  · exact setJc_journalOnly (request_journalOnly _ rfl) (fun _ h => h)
  · exact setJc_journalOnly (endScan_journalOnly _ _ _ _ _ _) (fun _ h => h)

theorem startScan_journalOnly (s : State) (x : Step) : s.journalOnly (s.startScan x) := by
  unfold State.startScan State.setStep
  exact setJc_journalOnly (scanTo_journalOnly _ _) (fun _ h => h)

theorem scanSlot_journalOnly (s : State) (k : Nat) (bs : List Byte) (merr : Bool) :
    s.journalOnly (s.scanSlot k bs merr) := by
  unfold State.scanSlot
  dsimp only
  repeat' split
  · exact scanTo_journalOnly _ _
  · exact setJc_journalOnly (request_journalOnly _ rfl) (fun _ h => h)
  · exact endScan_journalOnly _ _ _ _ _ _
  · exact endScan_journalOnly _ _ _ _ _ _

theorem lookAheadSlot_journalOnly (s : State) (sc : Scan) (bs : List Byte) (merr : Bool) :
    s.journalOnly (s.lookAheadSlot sc bs merr) := endScan_journalOnly _ _ _ _ _ _

theorem rollbackSlot_journalOnly (s : State) (rb : Rollback) (bs : List Byte) (merr : Bool) :
    s.journalOnly (s.rollbackSlot rb bs merr) := by
  unfold State.rollbackSlot
  dsimp only
  repeat' split
  · exact request_journalOnly _ rfl
  · exact rollTo_journalOnly _ _
  · exact rollTo_journalOnly _ _

theorem scrubbed_journalOnly (s : State) (n : Nat) : s.journalOnly (s.scrubbed n) := by
  unfold State.scrubbed
  dsimp only
  repeat' split
  · exact requestScrub_journalOnly _ _
  · exact setJc_journalOnly (writeAnchor_journalOnly _ _ _ _ _ _) (fun _ h => h)
  · exact setJc_journalOnly (writeAnchor_journalOnly _ _ _ _ _ _) (fun _ h => h)

theorem drainDone_works (s : State) : s.works s.drainDone := by
  unfold State.drainDone
  repeat' split
  · exact works_of_journalOnly (startAdvance_journalOnly s)
  · exact works_of_journalOnly (startRollback_journalOnly s)
  · exact works_of_journalOnly (writeAnchor_journalOnly s _ _ _ _ _)
  · exact works_retake (endOperation_journalOnly _ _ _ _ _)
  · exact works_of_journalOnly (startScrub_journalOnly s)
  all_goals exact ⟨s, journalOnly_of_arb rfl rfl rfl rfl (fun _ h => h), .none⟩

theorem portResponded_works (s : State) (p : Port) : s.works (s.portResponded p) := by
  unfold State.portResponded
  dsimp only
  repeat' split
  · exact setJc_works (drainDone_works _) (fun _ h => List.mem_of_mem_filter h)
  · exact works_of_journalOnly (journalOnly_of_arb rfl rfl rfl rfl (fun _ h => List.mem_of_mem_filter h))
  · exact ⟨s, journalOnly_of_arb rfl rfl rfl rfl (fun _ h => h), .none⟩

theorem selectAnchor_journalOnly (s : State) (a b : Option Anchor) : s.journalOnly (s.selectAnchor a b) := by
  have chosen k x : s.journalOnly (s.chosen k x) := journalOnly_of_arb rfl rfl rfl rfl (fun _ h => h)
  obtain ⟨-, e⟩ | ⟨k, x, -, -, ⟨-, e⟩ | ⟨-, e⟩⟩ := selectAnchor_cases s a b <;> rw [e]
  · exact journalOnly_of_arb rfl rfl rfl rfl (fun _ h => absurd h List.not_mem_nil)
  · exact journalOnly_trans (chosen k x) (startScrub_journalOnly _)
  · exact journalOnly_trans (chosen k x) (startScan_journalOnly _ _)

/-- A read copy is followed by the other, or by the selection (R88, R89). -/
theorem copyRead_journalOnly (s : State) (k : Copy) (a : Option Anchor) : s.journalOnly (s.copyRead k a) := by
  cases k
  · exact ⟨rfl, rfl, rfl, rfl, rfl, ⟨rfl, rfl, rfl⟩, .inr ⟨_, rfl, rfl⟩, fun _ h => h⟩
  · exact journalOnly_trans (u := s.setAnchors { s.anchors with validB := validity a })
      (journalOnly_of_arb rfl rfl rfl rfl (fun _ h => h)) (selectAnchor_journalOnly _ _ _)

theorem anchorDone_works (s : State) : s.works s.anchorDone := by
  unfold State.anchorDone
  repeat' split
  · exact works_of_journalOnly (startScrub_journalOnly s)
  · exact completeAdvance_works _ _
  · exact completeAdvance_works _ _
  · exact completeApply_works s
  · exact works_of_journalOnly (writeAnchor_journalOnly s _ _ _ _ _)
  · exact completeFormat_works s
  all_goals exact ⟨s, journalOnly_of_arb rfl rfl rfl rfl (fun _ h => h), .none⟩

end Sys2Proof.Machine
end

section
/-! PROOFS. O54: the rules each block has for itself, over the events (R45, R48, R54, R60, R69, R148, R174). -/
namespace Sys2Proof.Machine

open Sys2Proof

/-! ## The filter, the fence and the copies of the configuration -/

/-- The rules of the filter, the fence and the copies of the configuration together. -/
def State.configSound (s : State) : Prop := s.filterSound ∧ s.fenceSound ∧ s.copiesSound

theorem configSound_of_keepsConfig {s t : State} (h : s.keepsConfig t) (hs : s.configSound) : t.configSound :=
  ⟨filterSound_of_keepsConfig h hs.1, fenceSound_of_keepsConfig h hs.2.1, copiesSound_of_keepsConfig h hs.2.2⟩

/-- The rules speak of these items alone. -/
theorem configSound_congr {s t : State} (hs : s.configSound) (hfilter : t.filter = s.filter) (hfence : t.fence = s.fence)
    (hreset : t.inReset = s.inReset) (hlow : t.pins.pfailLow = s.pins.pfailLow)
    (hread : t.anchors.reading = true → s.anchors.reading = true) (hdec : t.decoder = s.decoder)
    (hmem : t.memSize = s.memSize) (hgeom : t.jc.geom = s.jc.geom) (hsg : t.store.geom = s.store.geom)
    (hact : t.store.active = s.store.active) : t.configSound := by
  obtain ⟨h1, ⟨f1, f2, f3⟩, h3⟩ := hs
  refine ⟨?_, ⟨?_, ?_, ?_⟩, ?_⟩
  · unfold State.filterSound at *; rwa [hfilter]
  · rwa [hreset, hfence, hlow]
  · rwa [hfence]
  · rw [hfence]; exact f3 ∘ hread
  · unfold State.copiesSound at *; rwa [hdec, hmem, hsg, hact, hgeom, hfence, hreset]

theorem configSound_settle {b : Arbiter} {s : State} (h : s.configSound) : (s.settle b).configSound :=
  configSound_of_keepsConfig (keepsConfig_settle (keepsConfig_refl s)) h

/-- An insertion keeps the set a set, within its capacity, and full while SATURATED (R52, R54). -/
theorem take_sound {f : Filter} (line : Nat)
    (h : f.lines.Nodup ∧ f.lines.length ≤ filterCapacity ∧ (f.saturated = true → f.lines.length = filterCapacity)) :
    (f.take line).lines.Nodup ∧ (f.take line).lines.length ≤ filterCapacity
      ∧ ((f.take line).saturated = true → (f.take line).lines.length = filterCapacity) := by
  obtain ⟨hnodup, hlen, hsat⟩ := h
  unfold Filter.take
  split
  · exact ⟨hnodup, hlen, hsat⟩
  · rename_i hnew
    split
    · rename_i hroom
      refine ⟨List.nodup_cons.mpr ⟨hnew, hnodup⟩, by simp only [List.length_cons]; omega, fun h => ?_⟩
      have := hsat h
      omega
    · rename_i hfull
      exact ⟨hnodup, hlen, fun _ => Nat.le_antisymm hlen (Nat.le_of_not_lt hfull)⟩

/-- A reset leaves the reset configuration in every copy, and the fence as PFAIL# stands (R119, R148). -/
theorem resetBlocks_configSound (s : State) (c : StartCause) : (s.resetBlocks c).configSound := by
  refine ⟨by simp [State.filterSound, State.resetBlocks, Filter.empty], ⟨fun _ => ?_, ?_, ?_⟩, ?_⟩
  · cases h : s.pins.pfailLow <;> simp [State.resetBlocks, fenceSample, h]
  · cases h : s.pins.pfailLow <;> simp [State.resetBlocks, fenceSample, h]
  · simp [State.resetBlocks, Anchors.reading]
  · simp [State.copiesSound, State.resetBlocks, fenceSample, Setup.reset]

/-- The pins may move beside a lasting reset: the fence follows PFAIL# at its end (R148). -/
theorem setPins_configSound {s : State} {x : Pins} (hlasts : (s.setPins x).inReset = true)
    (hs : s.filterSound) (hf : (s.fence.state = .latched → s.fence.mode = .latched)
      ∧ (s.anchors.reading = true → s.fence.mode = .level)) (hc : s.copiesSound)
    (hreset : s.store.geom = none ∧ s.store.active = Setup.reset) : (s.setPins x).configSound := by
  obtain ⟨c1, c2, c3, c4, -⟩ := hc
  exact ⟨hs, ⟨fun h => absurd h (by simp [hlasts]), hf.1, hf.2⟩, c1, c2, c3, c4, fun _ => hreset⟩

/-- The straps set the anchor area in the decoder's copy too (R42, R43). -/
theorem sampleStraps_configSound {s : State} (m : BitVec 3) (hs : s.configSound) : (s.sampleStraps m).configSound := by
  obtain ⟨h1, h2, c1, c2⟩ := hs
  refine ⟨h1, h2, ?_, c2⟩
  simp only [State.sampleStraps, State.setDecoder_decoder, State.setDecoder_memSize, State.setMemSize_memSize,
    State.setDecoder_store, State.setMemSize_store]
  rw [c1]
  rfl

/-- A reset ends with the fence sampled anew (R148). -/
theorem endReset_configSound {s : State} (hf : s.filterSound) (hdec : s.decoder = Decoder.load s.memSize none .reset)
    (hgeom : s.jc.geom = none) (hstore : s.store.geom = none ∧ s.store.active = Setup.reset) :
    s.endReset.configSound := by
  refine ⟨by simpa [State.filterSound] using hf, ⟨fun _ => ?_, ?_, ?_⟩, ?_⟩
  · cases h : s.pins.pfailLow <;> simp [State.endReset, fenceSample, h]
  · cases h : s.pins.pfailLow <;> simp [State.endReset, fenceSample, h]
  · cases h : s.pins.pfailLow <;> simp [State.endReset, fenceSample, h]
  · simp [State.copiesSound, State.endReset, fenceSample, hdec, hgeom, hstore, Setup.reset]

theorem grantNow_configSound {b : Arbiter} {s : State} (h : s.configSound) : (s.grantNow b).configSound :=
  configSound_congr h (by simp) (by simp) (by simp [State.inReset]) (by simp) (by simp) (by simp) (by simp) (by simp)
    (by simp) (by simp)

/-- The Fence Unit takes new settings: a latched fence stays latched under LATCHED alone (R142, R155). -/
theorem adoptFence_fenceSound {s : State} (c : Setup) (hs : s.fenceSound) (hread : s.anchors.reading = false) :
    (s.adoptFence c).fenceSound ∧ (s.adoptFence c).fence.action = c.action ∧ (s.adoptFence c).fence.mode = c.mode := by
  obtain ⟨f1, f2, -⟩ := hs
  unfold State.adoptFence
  split
  · rename_i h
    refine ⟨⟨fun hr => ?_, nofun, fun hrd => absurd hrd (by simp [hread])⟩, rfl, rfl⟩
    have := f1 hr
    rw [h.1] at this
    simpa using this
  · rename_i h
    refine ⟨⟨f1, fun hl => ?_, fun hrd => absurd hrd (by simp [hread])⟩, rfl, rfl⟩
    have hl : s.fence.state = .latched := hl
    cases hm : c.mode with
    | level => exact absurd ⟨hl, hm⟩ h
    | latched => rfl

/-- The completed operation takes nothing of the configuration (R15). -/
theorem endOperation_configSound {s : State} (h : s.configSound) (st : JournalState) (e : Word) (fill : Nat)
    (rec : LastOp) : (s.endOperation st e fill rec).configSound :=
  configSound_of_keepsConfig (endOperation_keepsConfig s st e fill rec) h

theorem retake_configSound {s : State} (h : s.configSound) : s.retake.configSound :=
  configSound_of_keepsConfig (keepsConfig_retake (keepsConfig_refl s)) h

/-- An APPLY brings the staged settings into force in every copy (R142). -/
theorem completeApply_configSound {s : State} (hs : s.configSound) (hread : s.anchors.reading = false)
    (hreset : s.inReset = false) : s.completeApply.configSound := by
  obtain ⟨h1, h2, c1, c2, -⟩ := hs
  unfold State.completeApply
  dsimp only
  refine retake_configSound (endOperation_configSound ?_ _ _ _ _)
  obtain ⟨a1, a2, a3⟩ := adoptFence_fenceSound (s := ((s.setStore { s.store with active := s.store.staged }).setDecoder
    { s.decoder with windows := s.store.staged.windows, default := s.store.staged.default })) s.store.staged h2 hread
  refine ⟨by simpa [State.filterSound] using h1, a1, ?_⟩
  unfold State.copiesSound
  refine ⟨?_, by simpa using c2, by rw [a2]; simp, by rw [a3]; simp, fun h => ?_⟩
  · simp [c1, Decoder.load]
  · simp only [State.inReset, State.adoptFence_untouched, State.setDecoder_pins, State.setStore_pins] at h hreset
    rw [hreset] at h
    cases h

/-- A FORMAT brings the staging image into force in every copy (R145). -/
theorem completeFormat_configSound {s : State} (hs : s.configSound) (hread : s.anchors.reading = false)
    (hreset : s.inReset = false) : s.completeFormat.configSound := by
  obtain ⟨-, h2, -⟩ := hs
  unfold State.completeFormat
  dsimp only
  refine retake_configSound (endOperation_configSound ?_ _ _ _ _)
  obtain ⟨a1, a2, a3⟩ := adoptFence_fenceSound
    (s := ((s.setStore { s.store with geom := some s.store.stagedGeom, active := s.store.staged }).setDecoder
      (Decoder.load s.memSize (some s.store.stagedGeom) s.store.staged)).setFilter .empty) s.store.staged h2 hread
  refine ⟨by simp [State.filterSound, Filter.empty], a1, ?_⟩
  unfold State.copiesSound
  refine ⟨by simp, by simp, by simpa using a2, by simpa using a3, fun h => ?_⟩
  simp only [State.inReset, State.setJc_pins, State.adoptFence_untouched, State.setFilter_pins, State.setDecoder_pins,
    State.setStore_pins] at h hreset
  rw [hreset] at h
  cases h

/-- Recovery takes the chosen anchor's configuration in every copy (R44, R123). -/
theorem chosen_configSound {s : State} (hs : s.configSound) (hread : s.anchors.reading = true)
    (hreset : s.inReset = false) (k : Copy) (x : Anchor) : (s.chosen k x).configSound := by
  obtain ⟨h1, ⟨f1, f2, f3⟩, -⟩ := hs
  refine ⟨h1, ⟨f1, fun hl => ?_, ?_⟩, rfl, rfl, rfl, rfl, fun h => ?_⟩
  · have hm := f2 hl
    rw [f3 hread] at hm
    cases hm
  · simp [State.chosen, State.loadAnchor, Anchors.reading]
  · have h : s.inReset = true := h
    rw [hreset] at h
    cases h

theorem selectAnchor_configSound {s : State} (hs : s.configSound) (hread : s.anchors.reading = true)
    (hreset : s.inReset = false) (a b : Option Anchor) : (s.selectAnchor a b).configSound := by
  obtain ⟨-, e⟩ | ⟨k, x, -, -, ⟨-, e⟩ | ⟨-, e⟩⟩ := selectAnchor_cases s a b <;> rw [e]
  · refine configSound_of_keepsConfig (completeRecovery_keepsConfig _ _ _ _ _ _) ?_
    exact configSound_congr hs rfl rfl rfl rfl (fun h => by simp [Anchors.reading] at h) rfl rfl rfl rfl rfl
  · exact configSound_of_keepsConfig (startScrub_keepsConfig _) (chosen_configSound hs hread hreset k x)
  · exact configSound_of_keepsConfig (startScan_keepsConfig _ _) (chosen_configSound hs hread hreset k x)

theorem copyRead_configSound {s : State} (hs : s.configSound) (hread : s.anchors.reading = true)
    (hreset : s.inReset = false) (k : Copy) (a : Option Anchor) : (s.copyRead k a).configSound := by
  cases k
  · exact configSound_congr hs rfl rfl rfl rfl (fun _ => by exact hread) rfl rfl rfl rfl rfl
  · exact selectAnchor_configSound (s := s.setAnchors { s.anchors with validB := validity a }) hs hread hreset _ _

theorem anchorDone_configSound {s : State} (hs : s.configSound) (hread : s.anchors.reading = false)
    (hreset : s.inReset = false) : s.anchorDone.configSound := by
  unfold State.anchorDone
  repeat' split
  · exact configSound_of_keepsConfig (startScrub_keepsConfig s) hs
  · exact configSound_of_keepsConfig (completeAdvance_keepsConfig s _) hs
  · exact configSound_of_keepsConfig (completeAdvance_keepsConfig s _) hs
  · exact completeApply_configSound hs hread hreset
  · exact configSound_of_keepsConfig (writeAnchor_keepsConfig s _ _ _ _ _) hs
  · exact completeFormat_configSound hs hread hreset
  all_goals exact hs

theorem changeFence_configSound {s : State} (hs : s.configSound) {x : FenceState} (hx : x ≠ .latched)
    (hlow : x = .fenced ↔ s.pins.pfailLow = true) : (s.changeFence x).configSound := by
  obtain ⟨h1, ⟨-, -, f3⟩, h3⟩ := hs
  exact ⟨h1, ⟨fun _ => hlow, fun h => absurd h hx, f3⟩, h3⟩

/-- The rules stay through every event: most leave the configuration alone, and the rest set every copy of it. -/
theorem Event_configSound {s t : State} {c : Instr} (h : s.Event c t) (hs : s.configSound) : t.configSound := by
  have keep {u} (hu : s.keepsConfig u) : (u.settle s.arb).configSound :=
    configSound_settle (configSound_of_keepsConfig hu hs)
  have released {u} (hu : s.release.keepsConfig u) : (u.settle s.arb).configSound :=
    keep (keepsConfig_trans (u := s.release) (keepsConfig_of_eq rfl rfl rfl rfl rfl rfl rfl rfl rfl) rfl hu)
  have accepted st op {u} (hu : (s.accept st op).keepsConfig u) (k : Option Frame) :
      ((u.finishRetake.setFrame k).settle s.arb).configSound :=
    configSound_settle (configSound_of_keepsConfig (keepsConfig_setFrame (keepsConfig_finishRetake hu) k) hs)
  cases h with
  | idles => exact hs
  | follows _ x hreset hlasts => exact setPins_configSound hlasts hs.1 hs.2.1.2 hs.2.2 (hs.2.2.2.2.2.2 hreset)
  | samples m x hreset hlasts =>
    obtain ⟨h1, h2, h3⟩ := sampleStraps_configSound m hs
    exact setPins_configSound hlasts h1 h2.2 h3 (hs.2.2.2.2.2.2 hreset)
  | begins _ why cut x _ hlasts =>
    obtain ⟨h1, h2, h3⟩ := resetBlocks_configSound (s.tear cut) why
    exact setPins_configSound hlasts h1 h2.2 h3 ⟨rfl, rfl⟩
  | ends _ m x _ hreset _ =>
    obtain ⟨h1, -, h3⟩ := sampleStraps_configSound m hs
    obtain ⟨hg, ha⟩ := hs.2.2.2.2.2.2 hreset
    have hdec := h3.1
    simp only [State.sampleStraps, State.setDecoder_store, State.setMemSize_store, hg, ha] at hdec
    exact grantNow_configSound (endReset_configSound h1 hdec (hs.2.2.2.1.trans hg) ⟨hg, ha⟩)
  | softResets => exact grantNow_configSound (endReset_configSound (resetBlocks_configSound _ _).1 rfl rfl ⟨rfl, rfl⟩)
  | frames => exact configSound_congr hs rfl rfl rfl rfl id rfl rfl rfl rfl rfl
  | falls hreset =>
    obtain ⟨h1, ⟨-, f2, f3⟩, h3⟩ := hs
    refine configSound_settle (configSound_of_keepsConfig (keepsConfig_finishRetake (keepsConfig_refl _)) ?_)
    exact ⟨h1, ⟨fun _ => by simp [State.changeFence], by simp [State.changeFence], f3⟩, h3⟩
  | rises hreset hlow =>
    obtain ⟨h1, ⟨-, f2, f3⟩, h3⟩ := hs
    refine configSound_settle ?_
    unfold State.pfailRises
    split
    · refine configSound_congr (s := (s.setPins { s.pins with pfailLow := false }).changeFence .normal) ?_
        (by simp) (by simp) (by simp [State.inReset]) (by simp) (by simp) (by simp) (by simp) (by simp) (by simp)
        (by simp)
      exact ⟨h1, ⟨fun _ => by simp [State.changeFence], by simp [State.changeFence], f3⟩, h3⟩
    · rename_i hm
      exact ⟨h1, ⟨fun _ => by simp, fun _ => hm, f3⟩, h3⟩
  | answers => exact configSound_settle (configSound_congr hs rfl rfl rfl rfl id rfl rfl rfl rfl rfl)
  | stages f item =>
    refine configSound_settle (configSound_congr hs rfl rfl rfl rfl id rfl rfl rfl ?_ ?_)
    all_goals cases item <;> rfl
  | validates => exact configSound_settle (configSound_congr hs rfl rfl rfl rfl id rfl rfl rfl rfl rfl)
  | releases f k hreset _ hmode hlatched =>
    obtain ⟨h1, ⟨f1, f2, f3⟩, h3⟩ := hs
    have hlow := f1 hreset
    rw [hlatched] at hlow
    refine configSound_settle (configSound_congr (s := s.changeFence .normal) ?_
      (by simp) (by simp) (by simp [State.inReset]) (by simp) (by simp) (by simp) (by simp) (by simp) (by simp)
      (by simp))
    exact ⟨h1, ⟨fun _ => by simpa [State.changeFence] using hlow, by simp [State.changeFence], f3⟩, h3⟩
  | commits _ k => exact accepted .committing .commit (startDrain_keepsConfig _ _) k
  | commitsDamaged _ k => exact accepted .committing .commit (startAdvance_keepsConfig _) k
  | aborts _ k => exact accepted .aborting .abort (startDrain_keepsConfig _ _) k
  | abortsDamaged _ k => exact accepted .aborting .abort (startScan_keepsConfig _ _) k
  | formats _ k => exact accepted .formatting .format (startDrain_keepsConfig _ _) k
  | applies _ k => exact accepted .applying .apply (startDrain_keepsConfig _ _) k
  | presents p =>
    exact configSound_congr hs (by simp) (by simp) (by simp [State.inReset]) (by simp) (by simp) (by simp)
      (by simp) (by simp) (by simp) (by simp)
  | responds p =>
    exact configSound_congr hs (by simp) (by simp) (by simp [State.inReset]) (by simp) (by simp) (by simp)
      (by simp) (by simp) (by simp) (by simp)
  | readCompletes p merr op =>
    refine keep (keepsConfig_trans ?_ (by simp) (portResponded_keepsConfig _ p))
    exact keepsConfig_of_eq (by simp) (by simp) (by simp) (by simp) (by simp) (by simp) (by simp) (by simp) (by simp)
  | writeCompletes p op =>
    refine keep (keepsConfig_trans ?_ (by simp) (portResponded_keepsConfig _ p))
    exact keepsConfig_of_eq (by simp) (by simp) (by simp) (by simp) (by simp) (by simp) (by simp) (by simp) (by simp)
  | lineRead merr op e => exact released (lineReadDone_keepsConfig s.release e op merr)
  | reserves e image => exact keep (reserve_keepsConfig s e image)
  | recordWritten op e n =>
    exact keep (keepsConfig_trans (u := (s.release.storeCells op).setPhase e (.inserting n))
      (keepsConfig_of_eq rfl rfl rfl rfl rfl rfl rfl rfl rfl) rfl (countRecord_keepsConfig _))
  | inserts e n =>
    obtain ⟨h1, h2, h3⟩ := hs
    refine configSound_settle (configSound_congr (s := s.setFilter (s.filter.take e.line)) ?_
      (by simp) (by simp) (by simp [State.inReset]) (by simp) (by simp) (by simp) (by simp) (by simp) (by simp)
      (by simp))
    exact ⟨take_sound e.line h1, h2, h3⟩
  | firstPartRead merr op k _ _ _ hunit =>
    refine configSound_settle (configSound_congr hs rfl rfl rfl rfl (fun _ => ?_) rfl rfl rfl rfl rfl)
    simp [Anchors.reading, hunit]
  | copyRead merr op k first m hreset _ _ hunit =>
    refine configSound_settle (copyRead_configSound (s := s.release) hs ?_ hreset _ _)
    simp [Anchors.reading, hunit]
  | firstPartWritten =>
    refine configSound_settle (configSound_congr hs rfl rfl rfl rfl (fun h => ?_) rfl rfl rfl rfl rfl)
    simp [Anchors.reading] at h
  | copyWritten op k seq hreset =>
    refine configSound_settle (anchorDone_configSound
      (configSound_congr hs rfl rfl rfl rfl (fun h => ?_) rfl rfl rfl rfl rfl) ?_ hreset)
    · simp [Anchors.reading] at h
    · simp [Anchors.reading]
  | scrubs op n =>
    exact keep (keepsConfig_trans (u := s.release.storeCells op) (keepsConfig_of_eq rfl rfl rfl rfl rfl rfl rfl rfl rfl)
      rfl (scrubbed_keepsConfig _ n))
  | scans merr op sc => exact released (scanSlot_keepsConfig s.release _ _ _)
  | looksAhead merr op sc => exact released (endScan_keepsConfig s.release _ _ _ _ _)
  | rollsBack merr op rb => exact released (rollbackSlot_keepsConfig s.release rb _ _)
  | restores op rb =>
    exact keep (keepsConfig_trans (u := s.release.storeCells op) (keepsConfig_of_eq rfl rfl rfl rfl rfl rfl rfl rfl rfl)
      rfl (rollTo_keepsConfig _ _))
  | _ =>
    refine configSound_settle (configSound_congr hs (by simp) (by simp) (by simp [State.inReset]) (by simp) (by simp)
      (by simp) (by simp) (by simp) (by simp) (by simp))

end Sys2Proof.Machine
end

section
/-! PROOFS. O54, the arbiter's purposes and the ports' records, over the events (R60, R69, R172, R174). -/
namespace Sys2Proof.Machine

open Sys2Proof

/-! ## The arbiter -/

theorem arbiterServes_congr {s t : State} (h : s.arbiterServes) (harb : t.arb = s.arb) : t.arbiterServes := by
  unfold State.arbiterServes at *
  rwa [harb]

/-- A request of its own requester's purpose (R174). -/
theorem request_arbiterServes {s : State} (h : s.arbiterServes) {r : Requester} {op : MemOp}
    (hop : op.purpose.servedBy r = true) : (s.request r op).arbiterServes := by
  refine ⟨fun r' op' hc => ?_, fun r' op' hq => ?_⟩
  · simpa [State.request] using h.1 r' op' (by simpa [State.request] using hc)
  · simp only [State.request, State.setArb_arb, Arbiter.request_setRequest] at hq
    split at hq
    · rename_i e
      cases hq
      rwa [← e]
    · exact h.2 r' op' hq

theorem release_arbiterServes {s : State} (h : s.arbiterServes) : s.release.arbiterServes :=
  ⟨fun _ _ hc => by simp [State.release] at hc, fun r op hq => h.2 r op (by cases r <;> exact hq)⟩

/-- A granted request leaves the pending ones and is the operation in progress (R174). -/
theorem granted_arbiterServes {s t : State} (h : s.arbiterServes) {r : Requester} {op : MemOp}
    (hq : s.arb.request r = some op)
    (ht : t.arb = { s.arb.setRequest r none with pointer := r, current := some (r, op) }) : t.arbiterServes := by
  refine ⟨fun r' op' hc => ?_, fun r' op' hq' => ?_⟩
  · rw [ht] at hc ⊢
    cases hc
    exact ⟨rfl, h.2 _ _ hq⟩
  · have : (s.arb.setRequest r none).request r' = some op' := by rw [ht] at hq'; cases r' <;> exact hq'
    rw [Arbiter.request_setRequest] at this
    split at this
    · cases this
    · exact h.2 _ _ this

theorem settle_arbiterServes {s : State} (h : s.arbiterServes) (b : Arbiter) : (s.settle b).arbiterServes := by
  obtain ⟨e, -⟩ | ⟨e, -⟩ | ⟨r, op, -, hq, ht⟩ := settle_cases b s
  · rwa [e]
  · rw [e]; exact arbiterServes_congr h rfl
  · exact granted_arbiterServes h hq ht

theorem grantNow_arbiterServes {s : State} (h : s.arbiterServes) (b : Arbiter) : (s.grantNow b).arbiterServes := by
  obtain ⟨e, -⟩ | ⟨r, op, -, hq, ht⟩ := grantNow_cases b s
  · rwa [e]
  · exact granted_arbiterServes h hq ht

theorem journalOnly_arbiterServes {s t : State} (hj : s.journalOnly t) (h : s.arbiterServes) : t.arbiterServes := by
  obtain ⟨h1, h2⟩ := h
  obtain ⟨ha, hb, hc⟩ := hj.others
  refine ⟨fun r op hcur => ?_, fun r op hq => ?_⟩
  · rw [hj.current] at hcur
    rw [hj.pointer]
    exact h1 r op hcur
  · cases r
    · exact h2 .portA op (by rw [← hq]; exact ha.symm)
    · exact h2 .portB op (by rw [← hq]; exact hb.symm)
    · exact h2 .capture op (by rw [← hq]; exact hc.symm)
    · have hq : t.arb.journal = some op := hq
      obtain e | ⟨op', e, hs⟩ := hj.journal
      · exact h2 .journal op (by rw [← hq]; exact e.symm)
      · rw [e] at hq
        cases hq
        exact hs

theorem readOp_served (x : Txn) (p : Port) : x.readOp.purpose.servedBy (portRequester p) = true := by
  cases p <;> rfl

theorem writeOp_served (x : Txn) (p : Port) : x.writeOp.purpose.servedBy (portRequester p) = true := by
  cases p <;> rfl

@[simp] theorem setPort_arb (s : State) (p : Port) (x : HostPort) : (s.setPort p x).arb = s.arb := by
  cases p <;> rfl

/-! ## The ports' records -/

/-- A port past IDLE that holds a record and no write (R60). -/
theorem sound_of_busy {st : Stage} {x : Option Txn} {b : Option BusResponse} (h1 : st ≠ .idle) (h2 : st ≠ .held)
    (h3 : x ≠ none) : HostPort.sound ⟨st, x, b⟩ :=
  ⟨⟨fun h => absurd h h1, fun h => absurd h h3⟩, fun h => absurd h h2⟩

theorem portsSound_iff {s : State} : s.portsSound ↔ ∀ p, (s.port p).sound :=
  ⟨fun h p => by cases p; exact h.1; exact h.2, fun h => ⟨h .a, h .b⟩⟩

theorem portsSound_congr {s t : State} (h : s.portsSound) (ha : t.portA = s.portA) (hb : t.portB = s.portB) :
    t.portsSound := by
  unfold State.portsSound
  rwa [ha, hb]

theorem setPort_portsSound {s : State} (h : s.portsSound) {p : Port} {x : HostPort} (hx : x.sound) :
    (s.setPort p x).portsSound := by
  rw [portsSound_iff] at h ⊢
  intro q
  rw [port_setPort]
  split
  · exact hx
  · exact h q

/-- Only a write is held (R63, R69). -/
theorem kind_of_judge_hold {s : State} {x : Txn} (h : s.judge x = .hold) : x.kind = .write := by
  cases hk : x.kind with
  | write => rfl
  | read =>
    unfold State.judge at h
    repeat' split at h
    all_goals simp_all

/-! ## Both -/

/-- What the ports and the arbiter have for themselves. -/
def State.hostSound (s : State) : Prop := s.arbiterServes ∧ s.portsSound

theorem hostSound_congr {s t : State} (h : s.hostSound) (harb : t.arb = s.arb) (ha : t.portA = s.portA)
    (hb : t.portB = s.portB) : t.hostSound :=
  ⟨arbiterServes_congr h.1 harb, portsSound_congr h.2 ha hb⟩

theorem settle_hostSound {s : State} (h : s.hostSound) (b : Arbiter) : (s.settle b).hostSound :=
  ⟨settle_arbiterServes h.1 b, portsSound_congr h.2 (by simp) (by simp)⟩

theorem grantNow_hostSound {s : State} (h : s.hostSound) (b : Arbiter) : (s.grantNow b).hostSound :=
  ⟨grantNow_arbiterServes h.1 b, portsSound_congr h.2 (by simp) (by simp)⟩

theorem release_hostSound {s : State} (h : s.hostSound) : s.release.hostSound :=
  ⟨release_arbiterServes h.1, portsSound_congr h.2 rfl rfl⟩

theorem request_hostSound {s : State} (h : s.hostSound) {r : Requester} {op : MemOp}
    (hop : op.purpose.servedBy r = true) : (s.request r op).hostSound :=
  ⟨request_arbiterServes h.1 hop, portsSound_congr h.2 rfl rfl⟩

/-- A port goes on with its record (R60). -/
theorem setPort_hostSound {s : State} (h : s.hostSound) {p : Port} {x : HostPort} (hx : x.sound) :
    (s.setPort p x).hostSound :=
  ⟨arbiterServes_congr h.1 (by simp), setPort_portsSound h.2 hx⟩

theorem refuse_hostSound {s : State} (h : s.hostSound) (p : Port) (x : Txn) (why : Reason) :
    (s.refuse p x why).hostSound := by
  have := setPort_hostSound h (p := p) (x := { s.port p with stage := .responding, txn := some (x.refused why) })
    (sound_of_busy (by simp) (by simp) (by simp))
  exact hostSound_congr this (by simp [State.refuse]) (by simp [State.refuse]) (by simp [State.refuse])

theorem enact_hostSound {s : State} (h : s.hostSound) {p : Port} {x : Txn} (hx : (s.port p).txn = some x)
    {d : Decision} (hd : d = .hold → x.kind = .write) : (s.enact p x d).hostSound := by
  cases d with
  | refuse why => exact refuse_hostSound h p x why
  | read =>
    refine request_hostSound (setPort_hostSound h (sound_of_busy (by simp) (by simp) ?_)) (readOp_served x p)
    simp [hx]
  | hold =>
    refine setPort_hostSound h ⟨by simp, fun _ y hy => ?_⟩
    cases hy
    exact ⟨hd rfl, rfl, rfl⟩
  | finish r => exact setPort_hostSound h (sound_of_busy (by simp) (by simp) (by simp))
  | write r => exact request_hostSound (setPort_hostSound h (sound_of_busy (by simp) (by simp) (by simp))) (writeOp_served x p)
  | queue r w =>
    exact hostSound_congr (setPort_hostSound h (p := p)
      (x := { s.port p with stage := .captureWait, txn := some { x with resolution := some r } })
      (sound_of_busy (by simp) (by simp) (by simp))) rfl rfl rfl

theorem takeDecision_hostSound {s : State} (h : s.hostSound) (p : Port) : (s.takeDecision p).hostSound := by
  unfold State.takeDecision
  split
  · exact enact_hostSound h (by assumption) kind_of_judge_hold
  · exact h

/-- The record of a port that stands in DECIDING again is still its own (R60). -/
theorem deciding_hostSound {s : State} (h : s.hostSound) {p : Port} (hp : (s.port p).stage = .held) :
    (s.deciding p).hostSound := by
  refine setPort_hostSound h (sound_of_busy (by simp) (by simp) fun hn => ?_)
  have := ((portsSound_iff.mp h.2) p).1.mpr hn
  rw [hp] at this
  cases this

theorem Decides_hostSound {s t : State} (hd : s.Decides t) (h : s.hostSound) : t.hostSound := by
  induction hd with
  | none => exact h
  | asks _ ih => exact hostSound_congr ih rfl rfl rfl
  | decides _ p _ ih => exact takeDecision_hostSound ih p
  | stands _ p hp ih => exact deciding_hostSound ih hp

theorem works_hostSound {s t : State} (hw : s.works t) (h : s.hostSound) : t.hostSound := by
  obtain ⟨u, hu, hd⟩ := hw
  exact Decides_hostSound hd ⟨journalOnly_arbiterServes hu h.1, portsSound_congr h.2 hu.portA hu.portB⟩

theorem handBack_hostSound {s : State} (h : s.hostSound) (p : Port) : (s.handBack p).hostSound := by
  unfold State.handBack
  split
  · rename_i x hx
    refine request_hostSound (setPort_hostSound h (sound_of_busy (by simp) (by simp) ?_)) (writeOp_served x p)
    simp [hx]
  · exact h

theorem refuseEntry_hostSound {s : State} (h : s.hostSound) (e : Entry) (why : Reason) :
    (s.refuseEntry e why).hostSound := by
  have freed : (s.setEngine { s.engine with current := none }).hostSound := hostSound_congr h rfl rfl rfl
  unfold State.refuseEntry
  dsimp only
  split
  · exact works_hostSound (portResponded_works _ _) (refuse_hostSound freed _ _ _)
  · exact freed

theorem takeEntry_hostSound {s : State} (h : s.hostSound) (e : Entry) (rest : List Entry) :
    (s.takeEntry e rest).hostSound := by
  have engine x : (s.setEngine x).hostSound := hostSound_congr h rfl rfl rfl
  unfold State.takeEntry
  split
  · exact handBack_hostSound (engine _) _
  · exact request_hostSound (engine _) rfl

theorem lineReadDone_hostSound {s : State} (h : s.hostSound) (e : Entry) (op : MemOp) (merr : Bool) :
    (s.lineReadDone e op merr).hostSound := by
  unfold State.lineReadDone
  split
  · exact refuseEntry_hostSound h _ _
  · exact hostSound_congr h rfl rfl rfl

theorem reserve_hostSound {s : State} (h : s.hostSound) (e : Entry) (image : List Byte) :
    (s.reserve e image).hostSound := by
  unfold State.reserve
  split
  · exact request_hostSound (s := s.setPhase e _) (hostSound_congr h rfl rfl rfl) rfl
  · exact refuseEntry_hostSound h _ _

theorem pfailRises_hostSound {s : State} (h : s.hostSound) : s.pfailRises.hostSound := by
  unfold State.pfailRises
  split
  · exact Decides_hostSound (Decides_retakeAtFence _ _) (hostSound_congr (t := s.changeFence .normal) h rfl rfl rfl)
  · exact hostSound_congr h rfl rfl rfl

theorem hostReadDone_hostSound {s : State} (h : s.hostSound) (p : Port) (op : MemOp) (merr : Bool) :
    (s.hostReadDone p op merr).hostSound := by
  unfold State.hostReadDone
  split
  · exact h
  · split
    · exact refuse_hostSound h _ _ _
    · exact setPort_hostSound h (sound_of_busy (by simp) (by simp) (by simp))

theorem hostWriteDone_hostSound {s : State} (h : s.hostSound) (p : Port) : (s.hostWriteDone p).hostSound := by
  unfold State.hostWriteDone
  split
  · exact h
  · rename_i x hx
    refine hostSound_congr (setPort_hostSound h (p := p) (x := { s.port p with stage := .responding })
      (sound_of_busy (by simp) (by simp) ?_)) rfl rfl rfl
    simp [hx]

/-- The drain an acceptance sets, and the work it starts (R82). -/
theorem startDrain_works (s : State) (ports : List Port) :
    (s.setJc { s.jc with step := some .draining, drain := ports }).works (s.startDrain ports) := by
  unfold State.startDrain
  dsimp only
  split
  · exact drainDone_works _
  · exact works_of_journalOnly (journalOnly_of_arb rfl rfl rfl rfl fun _ h => h)

theorem resetBlocks_hostSound (s : State) (c : StartCause) : (s.resetBlocks c).hostSound := by
  refine ⟨⟨nofun, fun r _ h => ?_⟩, ?_, ?_⟩
  · cases r <;> cases h
  all_goals exact ⟨by simp [State.resetBlocks], nofun⟩

theorem endReset_hostSound {s : State} (h : s.hostSound) : s.endReset.hostSound :=
  request_hostSound (hostSound_congr h rfl rfl rfl) rfl

theorem Event_hostSound {s t : State} {c : Instr} (he : s.Event c t) (h : s.hostSound) : t.hostSound := by
  have same {u : State} (harb : u.arb = s.arb) (ha : u.portA = s.portA) (hb : u.portB = s.portB) : u.hostSound :=
    hostSound_congr h harb ha hb
  have accepted {v u : State} (hu : v.works u) (hv : v.hostSound) (k : Option Frame) :
      ((u.finishRetake.setFrame k).settle s.arb).hostSound :=
    settle_hostSound (s := u.finishRetake.setFrame k)
      (hostSound_congr (Decides_hostSound (Decides_finishRetake u) (works_hostSound hu hv)) rfl rfl rfl) _
  have drained st op ports (k : Option Frame) :
      ((((s.accept st op).startDrain ports).finishRetake.setFrame k).settle s.arb).hostSound :=
    accepted (startDrain_works (s.accept st op) ports) (same rfl rfl rfl) k
  have worked {v u : State} (hv : v.hostSound) (hu : v.works u) : (u.settle s.arb).hostSound :=
    settle_hostSound (works_hostSound hu hv) _
  have rel := release_hostSound h
  have stored op : (s.release.storeCells op).hostSound := hostSound_congr rel rfl rfl rfl
  cases he with
  | idles => exact h
  | follows => exact same rfl rfl rfl
  | samples => exact same rfl rfl rfl
  | begins _ why cut => exact hostSound_congr (resetBlocks_hostSound (s.tear cut) why) rfl rfl rfl
  | ends _ m x =>
    exact grantNow_hostSound (endReset_hostSound (s := (s.sampleStraps m).setPins x) (same rfl rfl rfl)) _
  | softResets cut =>
    exact grantNow_hostSound (endReset_hostSound (resetBlocks_hostSound _ _)) _
  | frames => exact same rfl rfl rfl
  | falls =>
    exact settle_hostSound (Decides_hostSound (Decides_finishRetake _)
      (same (u := (s.setPins { s.pins with pfailLow := true }).changeFence .fenced) rfl rfl rfl)) _
  | rises => exact settle_hostSound (pfailRises_hostSound
    (s := s.setPins { s.pins with pfailLow := false }) (hostSound_congr h rfl rfl rfl)) _
  | releases f k =>
    refine settle_hostSound ?_ _
    refine hostSound_congr (s := (s.changeFence .normal).retakeAtFence s.fallNext) ?_ rfl rfl rfl
    exact Decides_hostSound (Decides_retakeAtFence _ _) (same rfl rfl rfl)
  | commits _ k => exact drained _ _ _ k
  | commitsDamaged _ k =>
    exact accepted (works_of_journalOnly (startAdvance_journalOnly (s.accept .committing .commit))) (same rfl rfl rfl) k
  | aborts _ k => exact drained _ _ _ k
  | abortsDamaged _ k =>
    exact accepted (works_of_journalOnly (startScan_journalOnly (s.accept .aborting .abort) _)) (same rfl rfl rfl) k
  | formats _ k => exact drained _ _ _ k
  | applies _ k => exact drained _ _ _ k
  | presents => exact setPort_hostSound h (sound_of_busy (by simp) (by simp) (by simp))
  | responds => exact setPort_hostSound h ⟨by simp, nofun⟩
  | decides p => exact settle_hostSound (takeDecision_hostSound h p) _
  | readCompletes p merr op => exact worked (hostReadDone_hostSound rel p op merr) (portResponded_works _ _)
  | writeCompletes p op =>
    exact worked (hostWriteDone_hostSound (stored op) p) (portResponded_works _ _)
  | takesEntry e rest => exact settle_hostSound (takeEntry_hostSound h e rest) _
  | lineRead merr op e => exact settle_hostSound (lineReadDone_hostSound rel e op merr) _
  | reserves e image => exact settle_hostSound (reserve_hostSound h e image) _
  | recordWritten op e n =>
    refine settle_hostSound ?_ _
    exact hostSound_congr rel (by simp) (by simp) (by simp)
  | inserts e n =>
    refine settle_hostSound (handBack_hostSound ?_ _) _
    exact same rfl rfl rfl
  | firstPartRead merr op k =>
    refine settle_hostSound (request_hostSound ?_ rfl) _
    exact hostSound_congr rel rfl rfl rfl
  | copyRead merr op k first m => exact worked rel (works_of_journalOnly (copyRead_journalOnly s.release k _))
  | firstPartWritten op k seq rest =>
    refine settle_hostSound (request_hostSound ?_ rfl) _
    exact hostSound_congr rel rfl rfl rfl
  | copyWritten op k seq =>
    refine settle_hostSound (works_hostSound (anchorDone_works _) ?_) _
    exact hostSound_congr rel rfl rfl rfl
  | scrubs op n =>
    exact worked (stored op) (works_of_journalOnly (scrubbed_journalOnly (s.release.storeCells op) n))
  | scans merr op sc => exact worked rel (works_of_journalOnly (scanSlot_journalOnly s.release _ _ _))
  | looksAhead merr op sc => exact worked rel (works_of_journalOnly (lookAheadSlot_journalOnly s.release sc _ _))
  | rollsBack merr op rb => exact worked rel (works_of_journalOnly (rollbackSlot_journalOnly s.release rb _ _))
  | restores op rb =>
    exact worked (stored op) (works_of_journalOnly (rollTo_journalOnly (s.release.storeCells op) _))
  | answers | stages | validates =>
    refine settle_hostSound ?_ _
    exact same rfl rfl rfl

/-- Settles O54: the configuration's rules and the host side's, each through every event. -/
theorem everyCommandKeepsTheBlocksSound : Obligations.EveryCommandKeepsTheBlocksSound := by
  intro c s t _ hfilter hfence hcopies harb hports h
  have he := Event_of_exec h
  obtain ⟨h1, h2, h3⟩ := Event_configSound he ⟨hfilter, hfence, hcopies⟩
  obtain ⟨h4, h5⟩ := Event_hostSound he ⟨harb, hports⟩
  exact ⟨h1, h2, h3, h4, h5⟩

end Sys2Proof.Machine
end

section
/-! PROOFS. O57: the service of the host's transactions, over the events (R60, R74, R75, R82, R174). -/
namespace Sys2Proof.Machine

open Sys2Proof

/-- Every requester but the Journal Controller has at most one operation at the arbiter (R174). -/
def State.othersSingle (s : State) : Prop :=
  ∀ r op, r ≠ .journal → s.arb.current = some (r, op) → s.arb.request r = none

/-- The service of the host's transactions, but for what a drain waits for and the Journal Controller's own
operations. -/
structure State.hostServed (s : State) : Prop where
  ports : ∀ p, s.portServed p
  nodup : s.engine.waiting.Nodup
  capture : s.captureWork
  handed : ∀ c, s.engine.current = some c → c.handedBack = true →
    (s.port c.entry.port).stage = .inMemory ∧ ∃ t, (s.port c.entry.port).txn = some t ∧ t.kind = .write
  single : s.othersSingle

/-- A transaction the drain may wait for: it is in CAPTURE_WAIT or IN_MEMORY (R82). -/
def State.underWay (s : State) (p : Port) : Prop := (s.port p).stage = .captureWait ∨ (s.port p).stage = .inMemory

/-- The drain waits for transactions under way alone (R82). -/
def State.drainServed (s : State) : Prop := ∀ p ∈ s.jc.drain, s.underWay p

theorem serviceSound_iff {s : State} (h : s.workSound) : s.serviceSound ↔ s.hostServed ∧ s.drainServed := by
  obtain ⟨-, -, -, hone⟩ := h
  constructor
  · rintro ⟨h1, h2, h3, h4, h5, h6⟩
    exact ⟨⟨h1, h2, h3, h4, fun r op _ => h5 r op⟩, h6⟩
  · rintro ⟨⟨h1, h2, h3, h4, h5⟩, h6⟩
    refine ⟨h1, h2, h3, h4, fun r op hc => ?_, h6⟩
    by_cases hr : r = .journal
    · subst hr; exact hone op hc
    · exact h5 r op hr hc

/-! ## The arbiter -/

theorem outstanding_eq_none {s : State} {r : Requester} (h : s.outstanding r = none) :
    s.arb.request r = none ∧ ∀ op, s.arb.current ≠ some (r, op) := by
  unfold State.outstanding Arbiter.outstanding at h
  split at h
  · cases h
  · rename_i hq
    refine ⟨hq, fun op hc => ?_⟩
    simp [hc] at h

/-- A request of a requester that has nothing outstanding (R174). -/
theorem othersSingle_request {s : State} {r : Requester} {op : MemOp} (h : s.othersSingle)
    (hidle : s.outstanding r = none) : (s.request r op).othersSingle := by
  intro r' op' hj hc
  have hc : s.arb.current = some (r', op') := by simpa [State.request] using hc
  have hne : r ≠ r' := fun e => (outstanding_eq_none hidle).2 op' (e ▸ hc)
  simpa [State.request, hne] using h r' op' hj hc

theorem othersSingle_congr {s t : State} (h : s.othersSingle) (hc : t.arb.current = s.arb.current)
    (hq : ∀ r, r ≠ .journal → t.arb.request r = s.arb.request r) : t.othersSingle := by
  intro r op hj hcur
  rw [hq r hj]
  exact h r op hj (hc ▸ hcur)

theorem othersSingle_release (s : State) : s.release.othersSingle := fun _ _ _ hc => by simp [State.release] at hc

/-- A completed operation leaves its requester with nothing outstanding, and the others with what they had (R172). -/
theorem release_outstanding {s : State} {r : Requester} {op : MemOp} (hcur : s.arb.current = some (r, op))
    (hq : s.arb.request r = none) (r' : Requester) :
    s.release.outstanding r' = if r' = r then none else s.outstanding r' := by
  have hreq : s.release.arb.request r' = s.arb.request r' := by cases r' <;> rfl
  unfold State.outstanding Arbiter.outstanding
  rw [hreq]
  by_cases e : r' = r
  · subst e
    simp [hq, State.release]
  · simp [State.release, hcur, Ne.symm e, e]

theorem outstanding_current {s : State} {r : Requester} {op : MemOp} (hcur : s.arb.current = some (r, op))
    (hq : s.arb.request r = none) : s.outstanding r = some op := by
  simp [State.outstanding, Arbiter.outstanding, hcur, hq]

theorem othersSingle_settle {s : State} (h : s.othersSingle) (b : Arbiter) : (s.settle b).othersSingle := by
  obtain ⟨e, -⟩ | ⟨e, -⟩ | ⟨r, op, -, -, ht⟩ := settle_cases b s
  · rwa [e]
  · rw [e]; exact h
  · intro r' op' _ hc
    rw [ht] at hc ⊢
    cases hc
    cases r <;> rfl

theorem journalOnly_outstanding {s t : State} (h : s.journalOnly t) {r : Requester} (hr : r ≠ .journal) :
    t.outstanding r = s.outstanding r := by
  obtain ⟨ha, hb, hc⟩ := h.others
  cases r with
  | journal => exact absurd rfl hr
  | portA => simp [State.outstanding, Arbiter.outstanding, Arbiter.request, h.current, ha]
  | portB => simp [State.outstanding, Arbiter.outstanding, Arbiter.request, h.current, hb]
  | capture => simp [State.outstanding, Arbiter.outstanding, Arbiter.request, h.current, hc]

/-! ## What keeps the service -/

theorem portRequester_ne_journal (p : Port) : portRequester p ≠ .journal := by cases p <;> nofun

theorem portRequester_ne_capture (p : Port) : portRequester p ≠ .capture := by cases p <;> nofun

theorem portRequester_injective {p q : Port} (h : p ≠ q) : portRequester p ≠ portRequester q := by
  cases p <;> cases q <;> simp_all [portRequester]

theorem portServed_congr {s t : State} {p : Port} (h : s.portServed p) (hport : t.port p = s.port p)
    (hout : t.outstanding (portRequester p) = s.outstanding (portRequester p))
    (hwait : p ∈ t.engine.waiting ↔ p ∈ s.engine.waiting) : t.portServed p := by
  unfold State.portServed at *
  rwa [hport, hout, hwait]

theorem captureWork_congr {s t : State} (h : s.captureWork) (hengine : t.engine.current = s.engine.current)
    (hout : t.outstanding .capture = s.outstanding .capture) : t.captureWork := by
  unfold State.captureWork at *
  rwa [hengine, hout]

/-- Work beside the host side keeps its service. -/
theorem hostServed_congr {s t : State} (h : s.hostServed) (hengine : t.engine = s.engine) (ha : t.portA = s.portA)
    (hb : t.portB = s.portB) (hout : ∀ r, r ≠ .journal → t.outstanding r = s.outstanding r) (hone : t.othersSingle) :
    t.hostServed where
  ports p := portServed_congr (h.ports p) (port_congr ha hb p) (hout _ (portRequester_ne_journal p)) (by rw [hengine])
  nodup := by rw [hengine]; exact h.nodup
  capture := captureWork_congr h.capture (by rw [hengine]) (hout _ nofun)
  handed c hc := by
    rw [port_congr ha hb]
    exact h.handed c (hengine ▸ hc)
  single := hone

theorem hostServed_of_arb {s t : State} (h : s.hostServed) (hengine : t.engine = s.engine) (ha : t.portA = s.portA)
    (hb : t.portB = s.portB) (harb : t.arb = s.arb) : t.hostServed :=
  hostServed_congr h hengine ha hb (fun r _ => outstanding_congr harb r)
    (othersSingle_congr h.single (by rw [harb]) fun r _ => by rw [harb])

theorem hostServed_settle {s : State} (h : s.hostServed) (b : Arbiter) : (s.settle b).hostServed :=
  hostServed_congr h (by simp) (by simp) (by simp) (fun r _ => settle_outstanding b s r) (othersSingle_settle h.single b)

theorem hostServed_journalOnly {s t : State} (h : s.hostServed) (hw : s.journalOnly t) : t.hostServed := by
  obtain ⟨ha, hb, hc⟩ := hw.others
  refine hostServed_congr h hw.engine hw.portA hw.portB (fun r => journalOnly_outstanding hw)
    (othersSingle_congr h.single hw.current fun r hr => ?_)
  cases r with
  | journal => exact absurd rfl hr
  | portA => exact ha
  | portB => exact hb
  | capture => exact hc

/-- The service of all but one port, which is about to go on. -/
structure State.servedBut (s : State) (p : Port) : Prop where
  ports : ∀ q, q ≠ p → s.portServed q
  nodup : s.engine.waiting.Nodup
  capture : s.captureWork
  handed : ∀ c, s.engine.current = some c → c.handedBack = true → c.entry.port ≠ p →
    (s.port c.entry.port).stage = .inMemory ∧ ∃ t, (s.port c.entry.port).txn = some t ∧ t.kind = .write
  single : s.othersSingle

theorem servedBut_of_hostServed {s : State} (h : s.hostServed) (p : Port) : s.servedBut p :=
  ⟨fun q _ => h.ports q, h.nodup, h.capture, fun c hc hb _ => h.handed c hc hb, h.single⟩

theorem hostServed_of_servedBut {s : State} {p : Port} (h : s.servedBut p) (hp : s.portServed p)
    (hhanded : ∀ c, s.engine.current = some c → c.handedBack = true → c.entry.port = p →
      (s.port p).stage = .inMemory ∧ ∃ t, (s.port p).txn = some t ∧ t.kind = .write) : s.hostServed where
  ports q := by
    by_cases hq : q = p
    · rwa [hq]
    · exact h.ports q hq
  nodup := h.nodup
  capture := h.capture
  handed c hc hb := by
    by_cases hq : c.entry.port = p
    · rw [hq]; exact hhanded c hc hb hq
    · exact h.handed c hc hb hq
  single := h.single

/-- What one port alone changes leaves the others' service. -/
theorem servedBut_congr {s t : State} {p : Port} (h : s.servedBut p) (hengine : t.engine = s.engine)
    (hport : ∀ q, q ≠ p → t.port q = s.port q)
    (hout : ∀ r, r ≠ portRequester p → r ≠ .journal → t.outstanding r = s.outstanding r) (hone : t.othersSingle) :
    t.servedBut p where
  ports q hq := portServed_congr (h.ports q hq) (hport q hq)
    (hout _ (portRequester_injective hq) (portRequester_ne_journal q)) (by rw [hengine])
  nodup := hengine ▸ h.nodup
  capture := captureWork_congr h.capture (by rw [hengine]) (hout _ (portRequester_ne_capture p).symm nofun)
  handed c hc hb hq := by
    rw [hport _ hq]
    exact h.handed c (hengine ▸ hc) hb hq
  single := hone

theorem servedBut_setPort {s : State} {p : Port} (h : s.servedBut p) (y : HostPort) : (s.setPort p y).servedBut p :=
  servedBut_congr h (by simp) (fun q hq => by simp [Ne.symm hq]) (fun r _ _ => outstanding_congr (by simp) r)
    (othersSingle_congr h.single (by simp) (by simp))

/-! ## Decisions -/

/-- A port in neither CAPTURE_WAIT nor IN_MEMORY has nothing with the engine and nothing at the arbiter (R60). -/
theorem portServed_of_rest {s : State} {p : Port} (h : s.portServed p) (hp : ¬ s.underWay p) :
    s.outstanding (portRequester p) = none ∧ p ∉ s.engine.waiting := by
  obtain ⟨-, h2, h3, -⟩ := h
  exact ⟨h2 fun e => hp (.inr e), fun e => hp (.inl (h3.mpr e))⟩

/-- A port with nothing with the engine and nothing at the arbiter is served in any stage but those two (R60). -/
theorem portServed_rest {s : State} {p : Port} (hp : ¬ s.underWay p) (hout : s.outstanding (portRequester p) = none)
    (hwait : p ∉ s.engine.waiting) : s.portServed p :=
  ⟨fun e => absurd (.inr e) hp, fun _ => hout, ⟨fun e => absurd (.inl e) hp, fun e => absurd e hwait⟩,
    fun e => absurd (.inl e) hp⟩

/-- What the decision finds of the kind of its transaction (R63). -/
theorem kind_of_judge {s : State} {x : Txn} :
    (s.judge x = .read → x.kind = .read) ∧ (∀ r, s.judge x = .write r → x.kind = .write)
      ∧ ∀ r w, s.judge x = .queue r w → x.kind = .write := by
  cases hk : x.kind with
  | write =>
    refine ⟨fun h => ?_, fun _ _ => rfl, fun _ _ _ => rfl⟩
    unfold State.judge at h
    repeat' split at h
    all_goals simp_all [State.judgeCovered, State.judgeOpen]
    repeat' split at h
    all_goals cases h
  | read =>
    refine ⟨fun _ => rfl, fun _ h => ?_, fun _ _ h => ?_⟩
    all_goals
      unfold State.judge at h
      repeat' split at h
      all_goals simp_all

@[simp] theorem waiting_enqueue (e : Engine) (x : Entry) :
    Engine.waiting { e with queue := e.queue ++ [x] } = e.waiting ++ [x.port] := by
  simp [Engine.waiting]

/-- A port whose own write the engine has not handed back in memory is no port of the engine's current entry. -/
theorem not_handed_of_rest {s : State} {p : Port} (h : s.hostServed) (hp : ¬ s.underWay p) (c : Current)
    (hc : s.engine.current = some c) (hb : c.handedBack = true) : c.entry.port ≠ p :=
  fun e => hp (.inr (e ▸ (h.handed c hc hb).1))

/-- A port goes on to a stage that needs no service (R60). -/
theorem hostServed_rests {s : State} {p : Port} (h : s.servedBut p) (hout : s.outstanding (portRequester p) = none)
    (hwait : p ∉ s.engine.waiting)
    (hhanded : ∀ c, s.engine.current = some c → c.handedBack = true → c.entry.port ≠ p) {y : HostPort}
    (hy : y.stage ≠ .captureWait ∧ y.stage ≠ .inMemory) : (s.setPort p y).hostServed := by
  refine hostServed_of_servedBut (servedBut_setPort h y) (portServed_rest ?_ ?_ (by simpa using hwait)) ?_
  · simpa [State.underWay] using hy
  · exact (outstanding_congr (by simp) _).trans hout
  · intro c hc hb e
    exact absurd e (hhanded c (by simpa using hc) hb)

/-- A port enters IN_MEMORY with its own operation (R65, R68). -/
theorem hostServed_requests {s : State} {p : Port} (h : s.servedBut p) (hout : s.outstanding (portRequester p) = none)
    (hwait : p ∉ s.engine.waiting) {y : HostPort} {x : Txn} (hy : y.stage = .inMemory) (hx : y.txn = some x)
    (hhanded : ∀ c, s.engine.current = some c → c.handedBack = true → c.entry.port = p → x.kind = .write) :
    ((s.setPort p y).request (portRequester p) x.memOp).hostServed := by
  have hport : ((s.setPort p y).request (portRequester p) x.memOp).port p = y := by
    show (s.setPort p y).port p = y
    simp
  have hidle : (s.setPort p y).outstanding (portRequester p) = none := (outstanding_congr (by simp) _).trans hout
  refine hostServed_of_servedBut (servedBut_congr (servedBut_setPort h y) rfl (fun _ _ => rfl)
    (fun r hr _ => request_outstanding_other _ _ hr.symm)
    (othersSingle_request (servedBut_setPort h y).single hidle)) ?_ ?_
  · unfold State.portServed
    rw [hport, request_outstanding_self, hy]
    exact ⟨fun _ => ⟨x, hx, rfl⟩, fun e => absurd rfl e,
      ⟨nofun, fun e => absurd (by simpa using e) hwait⟩, nofun⟩
  · intro c hc hb e
    rw [hport]
    exact ⟨hy, x, hx, hhanded c (by simpa using hc) hb e⟩

/-- A refusal ends the port's transaction (R72). -/
theorem refuse_hostServed {s : State} {p : Port} (h : s.servedBut p) (hout : s.outstanding (portRequester p) = none)
    (hwait : p ∉ s.engine.waiting)
    (hhanded : ∀ c, s.engine.current = some c → c.handedBack = true → c.entry.port ≠ p) (x : Txn) (why : Reason) :
    (s.refuse p x why).hostServed :=
  hostServed_of_arb (hostServed_rests h hout hwait hhanded
    (y := { s.port p with stage := .responding, txn := some (x.refused why) }) (by simp))
    (by simp) (by simp [State.refuse]) (by simp [State.refuse]) (by simp)

/-- A write joins the tail of the capture queue (R74). -/
theorem queued_hostServed {s : State} {p : Port} (h : s.servedBut p) (hout : s.outstanding (portRequester p) = none)
    (hwait : p ∉ s.engine.waiting)
    (hhanded : ∀ c, s.engine.current = some c → c.handedBack = true → c.entry.port ≠ p) {x : Txn} (hx : x.kind = .write)
    {r : Resolution} {w : Nat} : (s.enact p x (.queue r w)).hostServed := by
  have hport q : (s.enact p x (.queue r w)).port q
      = if p = q then { s.port p with stage := .captureWait, txn := some { x with resolution := some r } }
        else s.port q := port_setPort s p q _
  have hwaiting : (s.enact p x (.queue r w)).engine.waiting = s.engine.waiting ++ [p] := by simp [State.enact]
  have harb : (s.enact p x (.queue r w)).arb = s.arb := by simp [State.enact]
  refine hostServed_of_servedBut (p := p) ⟨fun q hq => ?_, ?_, ?_, fun c hc hb hq => ?_, ?_⟩ ?_ fun c hc hb e => ?_
  · exact portServed_congr (h.ports q hq) (by simp [hport, Ne.symm hq]) (outstanding_congr harb _) (by simp [hwaiting, hq])
  · rw [hwaiting]
    exact List.nodup_append.mpr ⟨h.nodup, by simp, by simpa using fun q hq (e : q = p) => hwait (e ▸ hq)⟩
  · exact captureWork_congr h.capture rfl (outstanding_congr harb _)
  · rw [hport, if_neg (Ne.symm hq)]
    exact h.handed c hc hb hq
  · exact othersSingle_congr h.single (by rw [harb]) fun r _ => by rw [harb]
  · unfold State.portServed
    rw [hport, hwaiting, if_pos rfl]
    exact ⟨nofun, fun _ => (outstanding_congr harb _).trans hout, by simp, fun _ => ⟨_, rfl, hx⟩⟩
  · exact absurd e (hhanded c hc hb)

/-- A port at rest takes its decision: its transaction is over, held, in memory or with the engine (R63). -/
theorem takeDecision_hostServed {s : State} (h : s.hostServed) {p : Port} (hp : ¬ s.underWay p) :
    (s.takeDecision p).hostServed := by
  obtain ⟨hout, hwait⟩ := portServed_of_rest (h.ports p) hp
  have hbut := servedBut_of_hostServed h p
  have hhanded := not_handed_of_rest h hp
  unfold State.takeDecision
  split
  · rename_i x hx
    obtain ⟨kread, kwrite, kqueue⟩ := kind_of_judge (s := s) (x := x)
    cases hj : s.judge x with
    | refuse why => exact refuse_hostServed hbut hout hwait hhanded x why
    | hold => exact hostServed_rests hbut hout hwait hhanded (by simp)
    | finish r => exact hostServed_rests hbut hout hwait hhanded (by simp)
    | read =>
      have hop : x.readOp = x.memOp := by simp [Txn.memOp, kread hj]
      simp only [State.enact, hop]
      exact hostServed_requests hbut hout hwait rfl hx fun c hc hb e => absurd e (hhanded c hc hb)
    | write r =>
      have hop : x.writeOp = Txn.memOp { x with resolution := some r } := by simp [Txn.memOp, kwrite r hj, Txn.writeOp]
      simp only [State.enact, hop]
      exact hostServed_requests hbut hout hwait rfl rfl fun c hc hb e => absurd e (hhanded c hc hb)
    | queue r w => exact queued_hostServed hbut hout hwait hhanded (kqueue r w hj)
  · exact h

/-- A held write is at rest, and so is one in DECIDING (R60). -/
theorem rest_of_stage {s : State} {p : Port} (h : (s.port p).stage = .deciding ∨ (s.port p).stage = .held) :
    ¬ s.underWay p := by
  unfold State.underWay
  obtain h | h := h <;> simp [h]

theorem Decides_hostServed {s t : State} (hd : s.Decides t) (h : s.hostServed) : t.hostServed := by
  induction hd with
  | none => exact h
  | asks _ ih => exact hostServed_of_arb ih rfl rfl rfl rfl
  | decides _ p hp ih => exact takeDecision_hostServed ih (rest_of_stage hp)
  | stands _ p hp ih =>
    obtain ⟨hout, hwait⟩ := portServed_of_rest (ih.ports p) (rest_of_stage (.inr hp))
    exact hostServed_rests (servedBut_of_hostServed ih p) hout hwait (not_handed_of_rest ih (rest_of_stage (.inr hp)))
      (by simp)

theorem takeDecision_port {s : State} {p q : Port} (h : q ≠ p) : (s.takeDecision p).port q = s.port q := by
  unfold State.takeDecision
  split
  · rename_i x _
    cases s.judge x with
    | refuse why => cases p <;> cases q <;> simp_all [State.enact, State.refuse, State.port, State.setPort]
    | _ => exact (port_setPort s p q _).trans (if_neg (Ne.symm h))
  · rfl

/-- A transaction under way takes no decision (R62). -/
theorem Decides_underWay {s t : State} (hd : s.Decides t) {q : Port} (h : s.underWay q) : t.port q = s.port q := by
  induction hd with
  | none => rfl
  | asks _ ih => exact ih
  | decides _ p hp ih =>
    refine (takeDecision_port fun e => rest_of_stage hp ?_).trans ih
    subst e
    simpa [State.underWay, ih] using h
  | stands _ p hp ih =>
    refine ((port_setPort _ p q _).trans (if_neg fun e => ?_)).trans ih
    subst e
    exact rest_of_stage (.inr hp) (by simpa [State.underWay, ih] using h)

/-! ## The Journal Controller's work -/

theorem works_hostServed {s t : State} (hw : s.works t) (h : s.hostServed) : t.hostServed := by
  obtain ⟨u, hu, hd⟩ := hw
  exact Decides_hostServed hd (hostServed_journalOnly h hu)

/-- The ports a drain waits for after the Journal Controller's work were waited for before it. -/
theorem works_drainServed {s t : State} (hw : s.works t) (h : ∀ p ∈ s.jc.drain, s.underWay p) : t.drainServed := by
  obtain ⟨u, hu, hd⟩ := hw
  have hjc : t.jc = u.jc := (Decides_untouched hd).2.2.1
  intro p hp
  have hs := h p (hu.drain p (hjc ▸ hp))
  have hu' : u.underWay p := by
    unfold State.underWay at hs ⊢
    rwa [port_congr hu.portA hu.portB]
  unfold State.underWay at hu' ⊢
  rwa [Decides_underWay hd hu']

/-- The service of a part: what the events below keep. -/
def State.inService (s : State) : Prop := s.hostServed ∧ s.drainServed

theorem inService_of_works {s t : State} (hw : s.works t) (h : s.inService) : t.inService :=
  ⟨works_hostServed hw h.1, works_drainServed hw h.2⟩

/-- The drain loses the port whose transaction is over (R82). -/
theorem portResponded_inService {s : State} {p : Port} (h : s.hostServed)
    (hdrain : ∀ q ∈ s.jc.drain, q ≠ p → s.underWay q) : (s.portResponded p).inService := by
  refine ⟨works_hostServed (portResponded_works s p) h, ?_⟩
  unfold State.portResponded
  dsimp only
  split
  · have rest : (s.setJc { s.jc with drain := s.jc.drain.filter fun q => q ≠ p }).drainServed := by
      intro q hq
      obtain ⟨h1, h2⟩ := List.mem_filter.mp hq
      exact hdrain q h1 (by simpa using h2)
    split
    · exact works_drainServed (drainDone_works _) rest
    · exact rest
  · rename_i hp
    exact fun q hq => hdrain q hq fun e => hp (e ▸ hq)

/-- The drain an acceptance sets waits for the transactions under way (R82). -/
theorem startDrain_inService {s : State} (h : s.hostServed) {ports : List Port} (hports : ports = [] ∨ ports = s.toDrain) :
    (s.startDrain ports).inService := by
  refine inService_of_works (startDrain_works s ports) ⟨hostServed_of_arb h rfl rfl rfl rfl, fun p hp => ?_⟩
  obtain rfl | rfl := hports
  · cases hp
  · have hu := (List.mem_filter.mp hp).2
    rw [decide_eq_true_eq] at hu
    exact hu

theorem inService_settle {s : State} (h : s.inService) (b : Arbiter) : (s.settle b).inService := by
  refine ⟨hostServed_settle h.1 b, fun p hp => ?_⟩
  have := h.2 p (by simpa using hp)
  unfold State.underWay at this ⊢
  rwa [port_congr (s := s) (by simp) (by simp)]

theorem inService_of_arb {s t : State} (h : s.inService) (hengine : t.engine = s.engine) (ha : t.portA = s.portA)
    (hb : t.portB = s.portB) (harb : t.arb = s.arb) (hdrain : t.jc.drain = s.jc.drain) : t.inService := by
  refine ⟨hostServed_of_arb h.1 hengine ha hb harb, fun p hp => ?_⟩
  have := h.2 p (hdrain ▸ hp)
  unfold State.underWay at this ⊢
  rwa [port_congr ha hb]

theorem inService_of_Decides {s t : State} (hd : s.Decides t) (h : s.inService) : t.inService :=
  inService_of_works ⟨s, journalOnly_of_arb rfl rfl rfl rfl fun _ h => h, hd⟩ h

end Sys2Proof.Machine
end

section
/-! PROOFS. O57: each event of a host port and of the Capture Engine leaves every transaction in service (R60, R65, R68,
R75 to R79, R82). -/
namespace Sys2Proof.Machine

open Sys2Proof

theorem refuse_port {s : State} {p q : Port} (h : q ≠ p) (x : Txn) (why : Reason) :
    (s.refuse p x why).port q = s.port q := by
  cases p <;> cases q <;> simp_all [State.refuse, State.port, State.setPort]

theorem underWay_congr {s t : State} {p : Port} (h : s.underWay p) (hport : t.port p = s.port p) : t.underWay p := by
  unfold State.underWay
  rwa [hport]

/-- The Journal Controller's completed operation is no transaction's (R172). -/
theorem release_journal_inService {s : State} {op : MemOp} (h : s.inService) (hcur : s.arb.current = some (.journal, op))
    (hq : s.arb.request .journal = none) : s.release.inService := by
  refine ⟨hostServed_congr h.1 rfl rfl rfl (fun r hr => ?_) (othersSingle_release s), fun p hp => h.2 p hp⟩
  rw [release_outstanding hcur hq, if_neg hr]

/-! ## A port's own operation -/

/-- A host operation in progress is that of its port's transaction, which stands in IN_MEMORY (R65, R68). -/
theorem transaction_of_current {s : State} {p : Port} {op : MemOp} (h : s.hostServed)
    (hcur : s.arb.current = some (portRequester p, op)) :
    (s.port p).stage = .inMemory ∧ (∃ x, (s.port p).txn = some x ∧ op = x.memOp) ∧ p ∉ s.engine.waiting
      ∧ s.release.outstanding (portRequester p) = none ∧ s.release.servedBut p := by
  have hq := h.single _ _ (portRequester_ne_journal p) hcur
  have hout := outstanding_current hcur hq
  obtain ⟨h1, h2, h3, -⟩ := h.ports p
  have hstage : (s.port p).stage = .inMemory := by
    by_contra hne
    rw [h2 hne] at hout
    cases hout
  obtain ⟨x, hx, hop⟩ := h1 hstage
  refine ⟨hstage, ⟨x, hx, Option.some.inj (hout.symm.trans hop)⟩, fun hw => ?_, ?_, ?_⟩
  · rw [h3.mpr hw] at hstage
    cases hstage
  · rw [release_outstanding hcur hq, if_pos rfl]
  · refine servedBut_congr (servedBut_of_hostServed h p) rfl (fun _ _ => rfl) (fun r hr _ => ?_) (othersSingle_release s)
    rw [release_outstanding hcur hq, if_neg hr]

theorem hostReadDone_port {s : State} {p q : Port} (h : q ≠ p) (op : MemOp) (merr : Bool) :
    (s.hostReadDone p op merr).port q = s.port q := by
  unfold State.hostReadDone
  split
  · rfl
  · split
    · exact refuse_port h _ _
    · exact (port_setPort s p q _).trans (if_neg (Ne.symm h))

/-- A host read ends its transaction in a part that serves its transactions (R65). -/
theorem hostReadDone_hostServed {s : State} {p : Port} {op : MemOp} (h : s.hostServed)
    (hcur : s.arb.current = some (portRequester p, op)) (hpurpose : op.purpose = .hostRead) (merr : Bool) :
    (s.release.hostReadDone p op merr).hostServed := by
  obtain ⟨hstage, ⟨x, hx, hop⟩, hwait, hout, hbut⟩ := transaction_of_current h hcur
  have hhanded c (hc : s.release.engine.current = some c) (hb : c.handedBack = true) : c.entry.port ≠ p := by
    intro e
    obtain ⟨-, y, hy, hk⟩ := h.handed c hc hb
    rw [e, hx] at hy
    cases hy
    simp [hop, Txn.memOp, hk, Txn.writeOp] at hpurpose
  unfold State.hostReadDone
  split
  · rename_i hnone
    exact absurd (hnone.symm.trans hx) nofun
  · split
    · exact refuse_hostServed hbut hout hwait hhanded _ _
    · exact hostServed_rests hbut hout hwait hhanded (by simp)

theorem readCompletes_inService {s : State} {p : Port} {op : MemOp} (h : s.inService)
    (hcur : s.arb.current = some (portRequester p, op)) (hpurpose : op.purpose = .hostRead) (merr : Bool) :
    ((s.release.hostReadDone p op merr).portResponded p).inService :=
  portResponded_inService (hostReadDone_hostServed h.1 hcur hpurpose merr) fun q hq hne =>
    underWay_congr (h.2 q (by simpa using hq)) (hostReadDone_port hne _ _)

/-- The engine's current entry is idle after the host write of its own, and is another port's otherwise (R75). -/
theorem hostWriteDone_cases (e : Engine) (p : Port) :
    (∃ c, e.current = some c ∧ c.entry.port = p ∧ c.handedBack = true ∧ e.hostWriteDone p = { e with current := none })
      ∨ (e.hostWriteDone p = e ∧ ∀ c, e.current = some c → c.handedBack = true → c.entry.port ≠ p) := by
  have handed (c : Current) : c.handedBack = true ↔ c.phase = .hit ∨ c.phase = .captured := by
    cases hph : c.phase <;> simp [Current.handedBack, hph]
  unfold Engine.hostWriteDone
  split
  · rename_i c hc
    split
    · rename_i h
      exact .inl ⟨c, hc, h.1, (handed c).mpr h.2, rfl⟩
    · rename_i h
      exact .inr ⟨rfl, fun c' hc' hb e => h (by rw [hc] at hc'; cases hc'; exact ⟨e, (handed c).mp hb⟩)⟩
  · rename_i hc
    exact .inr ⟨rfl, fun c' hc' => by rw [hc] at hc'; cases hc'⟩

/-- The current entry's write in memory leaves nothing for the engine at the arbiter (R75). -/
theorem outstanding_of_handed {s : State} (h : s.captureWork) {c : Current} (hc : s.engine.current = some c)
    (hb : c.handedBack = true) : s.outstanding .capture = none := by
  obtain ⟨e, ph⟩ := c
  unfold State.captureWork at h
  rw [hc] at h
  cases ph <;> simp_all [Current.handedBack]

/-- An idle engine in place of one whose current write is in memory (R75). -/
theorem servedBut_freed {s : State} {p : Port} (h : s.servedBut p) {c : Current} (hc : s.engine.current = some c)
    (hb : c.handedBack = true) : (s.setEngine { s.engine with current := none }).servedBut p := by
  have hwait : Engine.waiting { s.engine with current := none } = s.engine.waiting := by
    simp [Engine.waiting, hc, hb]
  refine ⟨fun q hq => portServed_congr (h.ports q hq) rfl rfl (by simp [hwait]), ?_, ?_, nofun, h.single⟩
  · simpa [hwait] using h.nodup
  · exact outstanding_of_handed (s := s) h.capture hc hb

/-- What a completed host write does to the part (R68, R75). -/
theorem hostWriteDone_eq {s : State} {p : Port} {x : Txn} (hx : (s.port p).txn = some x) :
    s.hostWriteDone p
      = (s.setPort p { s.port p with stage := .responding }).setEngine (s.engine.hostWriteDone p) := by
  unfold State.hostWriteDone
  rw [hx]

theorem hostWriteDone_port {s : State} {p q : Port} (h : q ≠ p) : (s.hostWriteDone p).port q = s.port q := by
  unfold State.hostWriteDone
  split
  · rfl
  · exact (port_setPort s p q _).trans (if_neg (Ne.symm h))

/-- A host write ends its transaction, and the engine that waited for it is idle (R68, R75). -/
theorem hostWriteDone_hostServed {s : State} {p : Port} {op : MemOp} (h : s.hostServed)
    (hcur : s.arb.current = some (portRequester p, op)) : ((s.release.storeCells op).hostWriteDone p).hostServed := by
  obtain ⟨hstage, ⟨x, hx, -⟩, hwait, hout, hbut⟩ := transaction_of_current h hcur
  have hbut' : (s.release.storeCells op).servedBut p :=
    servedBut_congr hbut rfl (fun _ _ => rfl) (fun _ _ _ => rfl) (othersSingle_release s)
  rw [hostWriteDone_eq (s := s.release.storeCells op) hx]
  obtain ⟨c, hc, hp, hb, e⟩ | ⟨e, hother⟩ := hostWriteDone_cases s.engine p
  · have hfree := servedBut_freed hbut' hc hb
    have := hostServed_rests hfree hout (by simpa [Engine.waiting, hc, hb] using hwait) nofun
      (y := { (s.release.storeCells op).port p with stage := .responding }) (by simp)
    change ((s.release.storeCells op).setPort p _).setEngine (s.engine.hostWriteDone p) |>.hostServed
    rw [e]
    cases p <;> exact this
  · have := hostServed_rests hbut' hout hwait hother
      (y := { (s.release.storeCells op).port p with stage := .responding }) (by simp)
    change ((s.release.storeCells op).setPort p _).setEngine (s.engine.hostWriteDone p) |>.hostServed
    rw [e]
    cases p <;> exact this

theorem writeCompletes_inService {s : State} {p : Port} {op : MemOp} (h : s.inService)
    (hcur : s.arb.current = some (portRequester p, op)) :
    (((s.release.storeCells op).hostWriteDone p).portResponded p).inService :=
  portResponded_inService (hostWriteDone_hostServed h.1 hcur) fun q hq hne =>
    underWay_congr (h.2 q (by simpa using hq)) (hostWriteDone_port hne)

/-! ## The capture in flight -/

/-- The engine works on with its entry, which it has not handed back (R75). -/
theorem hostServed_captures {s t : State} (h : s.hostServed) (ha : t.portA = s.portA) (hb : t.portB = s.portB)
    (hout : ∀ p, t.outstanding (portRequester p) = s.outstanding (portRequester p))
    (hwait : t.engine.waiting = s.engine.waiting) (hcapture : t.captureWork)
    (hhanded : ∀ c, t.engine.current = some c → c.handedBack = false) (hone : t.othersSingle) : t.hostServed where
  ports p := portServed_congr (h.ports p) (port_congr ha hb p) (hout p) (by rw [hwait])
  nodup := hwait ▸ h.nodup
  capture := hcapture
  handed c hc hb := by rw [hhanded c hc] at hb; cases hb
  single := hone

/-- The engine has parted with the entry of p, the first that waited: the other port's service stays. -/
theorem servedBut_parted {s t : State} {p : Port} (h : s.hostServed) (ha : t.portA = s.portA) (hb : t.portB = s.portB)
    (hout : ∀ q, t.outstanding (portRequester q) = s.outstanding (portRequester q))
    (hwait : s.engine.waiting = p :: t.engine.waiting) (hcapture : t.captureWork)
    (hhanded : ∀ c, t.engine.current = some c → c.handedBack = true → c.entry.port = p) (hone : t.othersSingle) :
    t.servedBut p where
  ports q hq := portServed_congr (h.ports q) (port_congr ha hb q) (hout q) (by simp [hwait, hq])
  nodup := (List.nodup_cons.mp (hwait ▸ h.nodup)).2
  capture := hcapture
  handed c hc hb hne := absurd (hhanded c hc hb) hne
  single := hone

/-- The port of the first entry that waits stands in CAPTURE_WAIT with its write, and has nothing outstanding (R74). -/
theorem waiting_head {s : State} {p : Port} {ports : List Port} (h : s.hostServed) (hwait : s.engine.waiting = p :: ports) :
    (s.port p).stage = .captureWait ∧ (∃ x, (s.port p).txn = some x ∧ x.kind = .write) ∧ p ∉ ports
      ∧ s.outstanding (portRequester p) = none := by
  obtain ⟨-, h2, h3, h4⟩ := h.ports p
  have hstage := h3.mpr (by simp [hwait])
  exact ⟨hstage, h4 hstage, (List.nodup_cons.mp (hwait ▸ h.nodup)).1, h2 (by simp [hstage])⟩

/-- The engine hands a write back (R76, R79). -/
theorem handBack_hostServed {s : State} {p : Port} (h : s.servedBut p) (hout : s.outstanding (portRequester p) = none)
    (hwait : p ∉ s.engine.waiting) (htxn : ∃ x, (s.port p).txn = some x ∧ x.kind = .write) :
    (s.handBack p).hostServed := by
  obtain ⟨x, hx, hk⟩ := htxn
  unfold State.handBack
  split
  · rename_i y hy
    obtain rfl : x = y := Option.some.inj (hx.symm.trans hy)
    have hop : x.writeOp = x.memOp := by simp [Txn.memOp, hk]
    rw [hop]
    exact hostServed_requests h hout hwait rfl hx fun _ _ _ _ => hk
  · rename_i hy
    exact absurd (hy.symm.trans hx) nofun

theorem handBack_underWay {s : State} {p q : Port} (h : s.underWay q) : (s.handBack p).underWay q := by
  unfold State.handBack
  split
  · unfold State.underWay at h ⊢
    cases p <;> cases q <;> simp_all [State.port, State.setPort]
  · exact h

/-- The engine refuses the write of its entry (R77, R78). -/
theorem refuseEntry_inService {s : State} {e : Entry} (h : (s.setEngine { s.engine with current := none }).servedBut e.port)
    (hout : s.outstanding (portRequester e.port) = none)
    (hwait : e.port ∉ Engine.waiting { s.engine with current := none }) (htxn : ∃ x, (s.port e.port).txn = some x)
    (hdrain : s.drainServed) (why : Reason) : (s.refuseEntry e why).inService := by
  obtain ⟨x, hx⟩ := htxn
  unfold State.refuseEntry
  dsimp only
  split
  · refine portResponded_inService (refuse_hostServed h hout hwait nofun _ _) fun q hq hne => ?_
    exact underWay_congr (hdrain q (by simpa using hq)) (refuse_port hne _ _)
  · rename_i hnone
    exact absurd (hnone.symm.trans hx) nofun

/-! ## The engine's events -/

/-- An entry the engine has yet to hand back or refuse stands first among those that wait (R75). -/
theorem waiting_current {x : Engine} {e : Entry} {ph : EnginePhase} (h : x.current = some ⟨e, ph⟩)
    (hb : Current.handedBack ⟨e, ph⟩ = false) : x.waiting = e.port :: x.queue.map Entry.port := by
  simp [Engine.waiting, h, hb]

/-- The capture of the current entry goes on to a phase in which the engine still has the write. -/
theorem capture_inService {s t : State} {e : Entry} {ph ph' : EnginePhase} (h : s.inService)
    (hcur : s.engine.current = some ⟨e, ph⟩) (hb : Current.handedBack ⟨e, ph⟩ = false)
    (hengine : t.engine = { s.engine with current := some ⟨e, ph'⟩ }) (hb' : Current.handedBack ⟨e, ph'⟩ = false)
    (ha : t.portA = s.portA) (hbp : t.portB = s.portB)
    (hout : ∀ p, t.outstanding (portRequester p) = s.outstanding (portRequester p)) (hcapture : t.captureWork)
    (hone : t.othersSingle) (hdrain : t.jc.drain = s.jc.drain) : t.inService := by
  refine ⟨hostServed_captures h.1 ha hbp hout ?_ hcapture (fun c hc => ?_) hone, fun q hq => ?_⟩
  · rw [waiting_current hcur hb, hengine, waiting_current rfl hb']
  · rw [hengine] at hc
    cases hc
    exact hb'
  · exact underWay_congr (h.2 q (hdrain ▸ hq)) (port_congr ha hbp q)

/-- The engine's current entry leaves it, and nothing of the engine's is outstanding. -/
theorem parted_of_current {s t : State} {e : Entry} {ph : EnginePhase} (h : s.hostServed)
    (hcur : s.engine.current = some ⟨e, ph⟩) (hb : Current.handedBack ⟨e, ph⟩ = false)
    (hengine : t.engine = { s.engine with current := none }) (ha : t.portA = s.portA) (hbp : t.portB = s.portB)
    (hout : ∀ p, t.outstanding (portRequester p) = s.outstanding (portRequester p))
    (hidle : t.outstanding .capture = none) (hone : t.othersSingle) : t.servedBut e.port := by
  refine servedBut_parted h ha hbp hout ?_ ?_ ?_ hone
  · rw [waiting_current hcur hb, hengine]
    simp [Engine.waiting]
  · unfold State.captureWork
    rw [hengine]
    exact hidle
  · rw [hengine]
    nofun

/-- The engine refuses its current entry's write, whatever it has done for it (R77, R78). -/
theorem refuseCurrent_inService {s t : State} {e : Entry} {ph : EnginePhase} (h : s.inService)
    (hcur : s.engine.current = some ⟨e, ph⟩) (hb : Current.handedBack ⟨e, ph⟩ = false) (hengine : t.engine = s.engine)
    (ha : t.portA = s.portA) (hbp : t.portB = s.portB)
    (hout : ∀ p, t.outstanding (portRequester p) = s.outstanding (portRequester p))
    (hidle : t.outstanding .capture = none) (hone : t.othersSingle) (hdrain : t.jc.drain = s.jc.drain) (why : Reason) :
    (t.refuseEntry e why).inService := by
  obtain ⟨-, ⟨x, hx, -⟩, hq, hidle'⟩ := waiting_head h.1 (waiting_current hcur hb)
  refine refuseEntry_inService ?_ ((hout _).trans hidle') ?_ ⟨x, (port_congr ha hbp _ ▸ hx)⟩ (fun q hq => ?_) why
  · exact parted_of_current h.1 hcur hb (by rw [State.setEngine_engine, hengine]) ha hbp hout hidle hone
  · rw [hengine]
    simpa [Engine.waiting] using hq
  · exact underWay_congr (h.2 q (hdrain ▸ hq)) (port_congr ha hbp q)

theorem release_capture_outstanding {s : State} {op : MemOp} (h : s.hostServed)
    (hcur : s.arb.current = some (.capture, op)) :
    s.release.outstanding .capture = none
      ∧ ∀ p, s.release.outstanding (portRequester p) = s.outstanding (portRequester p) := by
  have hq := h.single .capture _ (by simp) hcur
  refine ⟨by rw [release_outstanding hcur hq, if_pos rfl], fun p => ?_⟩
  rw [release_outstanding hcur hq, if_neg (portRequester_ne_capture p)]

/-- With nothing under way in the engine, nothing of it is outstanding (R76). -/
theorem capture_idle {s : State} (h : s.captureWork) (hc : s.engine.current = none) : s.outstanding .capture = none := by
  unfold State.captureWork at h
  rwa [hc] at h

theorem takeEntry_inService {s : State} {e : Entry} {rest : List Entry} (h : s.inService)
    (hengine : s.engine = ⟨e :: rest, none⟩) : (s.takeEntry e rest).inService := by
  have hidle := capture_idle h.1.capture (by rw [hengine])
  have hwait : s.engine.waiting = e.port :: rest.map Entry.port := by simp [hengine, Engine.waiting]
  obtain ⟨-, ⟨x, hx, hk⟩, hq, hout⟩ := waiting_head h.1 hwait
  unfold State.takeEntry
  split
  · refine ⟨handBack_hostServed ?_ hout (by simpa [Engine.waiting, Current.handedBack] using hq) ⟨x, hx, hk⟩, ?_⟩
    · refine servedBut_parted h.1 rfl rfl (fun _ => rfl) ?_ hidle ?_ h.1.single
      · rw [hwait]
        rfl
      · intro c hc _
        cases hc
        rfl
    · exact fun q hq => handBack_underWay (h.2 q (by simpa using hq))
  · refine ⟨hostServed_captures h.1 rfl rfl (fun p => ?_) ?_ ?_ ?_ (othersSingle_request h.1.single hidle), h.2⟩
    · exact request_outstanding_other _ _ (portRequester_ne_capture p).symm
    · rw [hwait]
      rfl
    · exact request_outstanding_self _ _ _
    · intro c hc
      cases hc
      rfl

theorem lineReadDone_inService {s : State} {e : Entry} {op : MemOp} (h : s.inService)
    (hcur : s.arb.current = some (.capture, op)) (hengine : s.engine.current = some ⟨e, .reading⟩) (merr : Bool) :
    (s.release.lineReadDone e op merr).inService := by
  obtain ⟨hidle, hout⟩ := release_capture_outstanding h.1 hcur
  unfold State.lineReadDone
  split
  · exact refuseCurrent_inService (t := s.release) h hengine rfl rfl rfl rfl hout hidle (othersSingle_release s) rfl _
  · exact capture_inService h hengine rfl rfl rfl rfl rfl hout hidle (othersSingle_release s) rfl

theorem reserve_inService {s : State} {e : Entry} {image : List Byte} (h : s.inService)
    (hengine : s.engine.current = some ⟨e, .reserving image⟩) : (s.reserve e image).inService := by
  have hidle : s.outstanding .capture = none := by
    have := h.1.capture
    unfold State.captureWork at this
    rwa [hengine] at this
  unfold State.reserve
  split
  · refine capture_inService h hengine rfl rfl rfl rfl rfl (fun p => ?_) ⟨_, request_outstanding_self _ _ _, rfl⟩
      (othersSingle_request h.1.single hidle) rfl
    exact request_outstanding_other _ _ (portRequester_ne_capture p).symm
  · exact refuseCurrent_inService h hengine rfl rfl rfl rfl (fun _ => rfl) hidle h.1.single rfl _

theorem recordWritten_inService {s : State} {e : Entry} {op : MemOp} {n : Nat} (h : s.inService)
    (hcur : s.arb.current = some (.capture, op)) (hengine : s.engine.current = some ⟨e, .writing n⟩) :
    (((s.release.storeCells op).setPhase e (.inserting n)).countRecord).inService := by
  obtain ⟨hidle, hout⟩ := release_capture_outstanding h.1 hcur
  refine inService_of_arb (s := (s.release.storeCells op).setPhase e (.inserting n)) ?_ (by simp) (by simp) (by simp)
    (by simp) ?_
  · exact capture_inService h hengine rfl rfl rfl rfl rfl hout hidle (othersSingle_release s) rfl
  · unfold State.countRecord
    dsimp only
    split <;> simp

theorem insertion_inService {s : State} {e : Entry} {n : Nat} (h : s.inService)
    (hengine : s.engine.current = some ⟨e, .inserting n⟩) (f : Filter) :
    (((s.setFilter f).setPhase e .captured).handBack e.port).inService := by
  have hidle : s.outstanding .capture = none := by
    have := h.1.capture
    unfold State.captureWork at this
    rwa [hengine] at this
  obtain ⟨-, ⟨x, hx, hk⟩, hq, hout⟩ := waiting_head h.1 (waiting_current hengine rfl)
  refine ⟨handBack_hostServed ?_ hout (by simpa [State.setPhase, Engine.waiting, Current.handedBack] using hq) ⟨x, hx, hk⟩,
    fun q hq => handBack_underWay (h.2 q (by simpa using hq))⟩
  refine servedBut_parted h.1 rfl rfl (fun _ => rfl) ?_ hidle ?_ h.1.single
  · rw [waiting_current hengine rfl]
    rfl
  · intro c hc _
    cases hc
    rfl

/-! ## Resets -/

/-- After a reset no transaction is in progress and nothing is outstanding (R119). -/
theorem resetBlocks_inService (s : State) (c : StartCause) : (s.resetBlocks c).inService := by
  have idle p : ((s.resetBlocks c).port p).stage = .idle := by cases p <;> rfl
  have nothing r : (s.resetBlocks c).outstanding r = none := by cases r <;> rfl
  refine ⟨⟨fun p => portServed_rest (by simp [State.underWay, idle]) (nothing _) List.not_mem_nil, List.nodup_nil,
    nothing .capture, nofun, nofun⟩, nofun⟩

theorem endReset_inService {s : State} (h : s.inService) : s.endReset.inService := by
  refine inService_of_works (s := s) (works_of_journalOnly ?_) h
  exact ⟨rfl, rfl, rfl, rfl, rfl, ⟨rfl, rfl, rfl⟩, .inr ⟨_, rfl, rfl⟩, fun _ h => h⟩

theorem grantNow_inService {s : State} (h : s.inService) (b : Arbiter) : (s.grantNow b).inService := by
  refine ⟨hostServed_congr h.1 (by simp) (by simp) (by simp) (fun r _ => grantNow_outstanding b s r) ?_, fun p hp => ?_⟩
  · obtain ⟨e, -⟩ | ⟨r, op, -, -, ht⟩ := grantNow_cases b s
    · rw [e]; exact h.1.single
    · intro r' op' _ hc
      rw [ht] at hc ⊢
      cases hc
      cases r <;> rfl
  · exact underWay_congr (h.2 p (by simpa using hp)) (port_congr (by simp) (by simp) p)

/-- A port at rest takes a presentation or gives its response (R61, R62). -/
theorem setPort_inService {s : State} (h : s.inService) {p : Port} (hp : ¬ s.underWay p) {y : HostPort}
    (hy : y.stage ≠ .captureWait ∧ y.stage ≠ .inMemory) : (s.setPort p y).inService := by
  obtain ⟨hout, hwait⟩ := portServed_of_rest (h.1.ports p) hp
  refine ⟨hostServed_rests (servedBut_of_hostServed h.1 p) hout hwait (not_handed_of_rest h.1 hp) hy, fun q hq => ?_⟩
  have hu := h.2 q (by simpa using hq)
  refine underWay_congr hu ((port_setPort s p q y).trans (if_neg fun e => ?_))
  subst e
  exact hp hu

/-- Every event leaves the transactions in service. -/
theorem Event_inService {s t : State} {c : Instr} (he : s.Event c t) (h : s.inService) (hone : s.journalSingle) :
    t.inService := by
  have same {u : State} (hengine : u.engine = s.engine) (ha : u.portA = s.portA) (hb : u.portB = s.portB)
      (harb : u.arb = s.arb) (hdrain : u.jc.drain = s.jc.drain) : u.inService :=
    inService_of_arb h hengine ha hb harb hdrain
  have answered {u : State} (hu : u.inService) (k : Option Frame) : ((u.finishRetake.setFrame k).settle s.arb).inService :=
    inService_settle (s := u.finishRetake.setFrame k)
      (inService_of_arb (inService_of_Decides (Decides_finishRetake u) hu) rfl rfl rfl rfl rfl) _
  have accepted st op : (s.accept st op).inService := same rfl rfl rfl rfl rfl
  have drained st op {ports : List Port} (hports : ports = [] ∨ ports = s.toDrain) (k : Option Frame) :
      ((((s.accept st op).startDrain ports).finishRetake.setFrame k).settle s.arb).inService :=
    answered (startDrain_inService (accepted st op).1 hports) k
  have released {op : MemOp} (hcur : s.arb.current = some (.journal, op)) : s.release.inService :=
    release_journal_inService h hcur (hone op hcur)
  have stored {op : MemOp} (hcur : s.arb.current = some (.journal, op)) : (s.release.storeCells op).inService :=
    inService_of_arb (released hcur) rfl rfl rfl rfl rfl
  have worked {v u : State} (hu : v.works u) (hv : v.inService) : (u.settle s.arb).inService :=
    inService_settle (inService_of_works hu hv) _
  cases he with
  | idles => exact h
  | follows => exact same rfl rfl rfl rfl rfl
  | samples => exact same rfl rfl rfl rfl rfl
  | begins _ why cut => exact inService_of_arb (resetBlocks_inService (s.tear cut) why) rfl rfl rfl rfl rfl
  | ends _ m x =>
    exact grantNow_inService (endReset_inService (s := (s.sampleStraps m).setPins x) (same rfl rfl rfl rfl rfl)) _
  | softResets => exact grantNow_inService (endReset_inService (resetBlocks_inService _ _)) _
  | frames => exact same rfl rfl rfl rfl rfl
  | falls =>
    refine inService_settle (inService_of_Decides (Decides_finishRetake _) ?_) _
    exact same rfl rfl rfl rfl rfl
  | rises =>
    refine inService_settle ?_ _
    unfold State.pfailRises
    split
    · refine inService_of_Decides (Decides_retakeAtFence _ _) ?_
      exact same rfl rfl rfl rfl rfl
    · exact same rfl rfl rfl rfl rfl
  | releases f k =>
    refine inService_settle ?_ _
    refine inService_of_arb (s := (s.changeFence .normal).retakeAtFence s.fallNext) ?_ rfl rfl rfl rfl rfl
    refine inService_of_Decides (Decides_retakeAtFence _ _) ?_
    exact same rfl rfl rfl rfl rfl
  | commits _ k => exact drained _ _ (.inr rfl) k
  | commitsDamaged _ k =>
    exact answered (inService_of_works (works_of_journalOnly (startAdvance_journalOnly _)) (accepted _ _)) k
  | aborts _ k => exact drained _ _ (.inr rfl) k
  | abortsDamaged _ k =>
    exact answered (inService_of_works (works_of_journalOnly (startScan_journalOnly _ _)) (accepted _ _)) k
  | formats _ k =>
    refine drained _ _ ?_ k
    split
    · exact .inl rfl
    · exact .inr rfl
  | applies _ k => exact drained _ _ (.inr rfl) k
  | presents p q _ hidle => exact setPort_inService h (by simp [State.underWay, hidle]) (by simp)
  | responds p _ hstage => exact setPort_inService h (by simp [State.underWay, hstage]) (by simp)
  | decides p _ hstage =>
    exact inService_settle (inService_of_Decides (.decides .none p (.inl hstage)) h) _
  | readCompletes p merr op _ hcur hpurpose => exact inService_settle (readCompletes_inService h hcur hpurpose merr) _
  | writeCompletes p op _ hcur => exact inService_settle (writeCompletes_inService h hcur) _
  | takesEntry e rest _ hengine => exact inService_settle (takeEntry_inService h hengine) _
  | lineRead merr op e _ hcur _ hengine => exact inService_settle (lineReadDone_inService h hcur hengine merr) _
  | reserves e image _ hengine => exact inService_settle (reserve_inService h hengine) _
  | recordWritten op e n _ hcur _ hengine => exact inService_settle (recordWritten_inService h hcur hengine) _
  | inserts e n _ hengine => exact inService_settle (insertion_inService h hengine _) _
  | firstPartRead merr op k _ hcur =>
    refine worked (works_of_journalOnly (request_journalOnly _ rfl)) ?_
    exact inService_of_arb (released hcur) rfl rfl rfl rfl rfl
  | copyRead merr op k first m _ hcur => exact worked (works_of_journalOnly (copyRead_journalOnly _ _ _)) (released hcur)
  | firstPartWritten op k seq rest _ hcur =>
    refine worked (works_of_journalOnly (request_journalOnly _ rfl)) ?_
    exact inService_of_arb (released hcur) rfl rfl rfl rfl rfl
  | copyWritten op k seq _ hcur =>
    refine worked (anchorDone_works _) ?_
    exact inService_of_arb (released hcur) rfl rfl rfl rfl rfl
  | scrubs op n _ hcur => exact worked (works_of_journalOnly (scrubbed_journalOnly _ n)) (stored hcur)
  | scans merr op sc _ hcur => exact worked (works_of_journalOnly (scanSlot_journalOnly _ _ _ _)) (released hcur)
  | looksAhead merr op sc _ hcur => exact worked (works_of_journalOnly (lookAheadSlot_journalOnly _ sc _ _)) (released hcur)
  | rollsBack merr op rb _ hcur => exact worked (works_of_journalOnly (rollbackSlot_journalOnly _ rb _ _)) (released hcur)
  | restores op rb _ hcur => exact worked (works_of_journalOnly (rollTo_journalOnly _ _)) (stored hcur)
  | answers | stages | validates =>
    refine inService_settle ?_ _
    exact same rfl rfl rfl rfl rfl

/-- Settles O57: the service of each port goes through every event, the Journal Controller's own operation by O56. -/
theorem everyTransactionIsServed : Obligations.EveryTransactionIsServed := by
  intro c s t hw hs h
  have hw' := anOperationAlwaysHasItsWork c s t hw h
  obtain ⟨h1, h2⟩ := (serviceSound_iff hw).mp hs
  exact (serviceSound_iff hw').mpr (Event_inService (Event_of_exec h) ⟨h1, h2⟩ hw.2.2.2)

end Sys2Proof.Machine
end

section
/-! PROOFS. O55: no write stays held without a holding cause, and no decision to retake stays open (R69 to R71, R151). -/
namespace Sys2Proof.Machine

open Sys2Proof

/-- The rule of one port: a held write has its holding cause, and a decision to retake waits for nothing (R69, R70). -/
def State.heldFor (s : State) (p : Port) : Prop :=
  ((s.port p).stage = .held → s.holding ∧ s.jc.state ≠ .recovering)
    ∧ (s.retaking p = true → s.jc.op = .none ∧ s.fence.state = .normal)

/-- What the Journal Controller works at tells what it examines (R98, R120). -/
theorem examining_of_stepWork {s : State} (h : s.stepWork) : s.examining := by
  have unread : s.anchors.op = none → s.anchors.reading = false := fun e => by simp [Anchors.reading, e]
  unfold State.stepWork at h
  unfold State.examining
  split at h
  · obtain ⟨h1, -, h3, -, h5, -⟩ := h
    simp [h1, h3, unread h5]
  · obtain ⟨h1, -, h3, -, h5, -⟩ := h
    simp [h1, h3, unread h5]
  · obtain ⟨h1, -, h3, -, -, -, ho⟩ := h
    simp [h1, h3, ho]
  · obtain ⟨-, h2, -, h4, -, ho⟩ := h
    simp [ho, unread h4]
  · obtain ⟨-, h2, -, h4, -, ho⟩ := h
    simp [ho, unread h4]
  · obtain ⟨-, -, -, h4, -, ho⟩ := h
    exact ⟨fun _ => ho, fun hr => by simp [unread h4] at hr⟩
  · obtain ⟨h1, -, h3, -, -, -, -, ho⟩ := h
    exact ⟨fun hx => ho (hx.resolve_left (absurd h1)), fun hr => by simp [unread h3] at hr⟩
  · obtain ⟨h1, -, -, -, hread, -, -, ho⟩ := h
    exact ⟨fun hx => ho (hx.resolve_left (absurd h1)), fun hr => by simp [hread] at hr⟩
  · obtain ⟨h1, -, -, -, hread, -, -, ho⟩ := h
    exact ⟨fun hx => ho (hx.resolve_left (absurd h1)), fun hr => by simp [hread] at hr⟩
  all_goals
    obtain ⟨h1, -, h3, -, -, hread, -⟩ := h
    simp [h1, h3, hread]

/-! ## Decisions -/

theorem retaking_congr {s t : State} {p : Port} (h : t.port p = s.port p) : t.retaking p = s.retaking p := by
  unfold State.retaking
  rw [h]

theorem holding_congr {s t : State} (hstate : t.jc.state = s.jc.state) (hfence : t.fence = s.fence) :
    t.holding ↔ s.holding := by
  unfold State.holding State.pathMode
  rw [hstate, hfence]

theorem heldFor_congr {s t : State} {p : Port} (h : s.heldFor p) (hport : t.port p = s.port p)
    (hstate : t.jc.state = s.jc.state) (hop : t.jc.op = s.jc.op) (hfence : t.fence = s.fence) : t.heldFor p := by
  unfold State.heldFor at *
  rw [hport, retaking_congr hport, holding_congr hstate hfence, hstate, hop, hfence]
  exact h

/-- A port whose write is neither held nor in DECIDING has no rule to keep. -/
theorem heldFor_of_stage {s : State} {p : Port} (h1 : (s.port p).stage ≠ .held) (h2 : (s.port p).stage ≠ .deciding) :
    s.heldFor p :=
  ⟨fun h => absurd h h1, fun h => by simp [State.retaking, h2] at h⟩

theorem judgeOpen_ne_hold (s : State) (x : Txn) (pol : Policy) (w : Nat) : s.judgeOpen x pol w ≠ .hold := by
  unfold State.judgeOpen
  split_ifs <;> nofun

/-- Check 8 finds a holding cause (R63, R69). -/
theorem holding_of_judgeCovered {s : State} {x : Txn} {pol : Policy} {w : Nat} (h : s.judgeCovered x pol w = .hold) :
    s.holding := by
  unfold State.judgeCovered at h
  split_ifs at h with _ _ _ hhold
  · simpa [State.holding, Fence.up] using hhold
  · exact absurd h (judgeOpen_ne_hold s x pol w)

/-- A decision that holds its write has found a holding cause, with the path not CLOSED (R63, R69). -/
theorem holding_of_judge {s : State} {x : Txn} (h : s.judge x = .hold) : s.holding ∧ s.jc.state ≠ .recovering := by
  unfold State.judge at h
  split_ifs at h with _ _ hpath
  split at h
  · cases h
  · exact ⟨holding_of_judgeCovered h, fun e => hpath (by simp [State.pathMode, e, JournalState.pathMode])⟩

/-- A port with a transaction that takes its decision has its rule (R63, R69). -/
theorem takeDecision_heldFor {s : State} {p : Port} (hx : (s.port p).txn ≠ none) : (s.takeDecision p).heldFor p := by
  unfold State.takeDecision
  split
  · rename_i x _
    cases hj : s.judge x with
    | hold =>
      obtain ⟨h1, h2⟩ := holding_of_judge hj
      refine ⟨fun _ => ⟨(holding_congr (by simp) (by simp)).mpr h1, by simpa using h2⟩, fun h => ?_⟩
      simp [State.retaking, State.enact] at h
    | refuse why =>
      refine heldFor_of_stage ?_ ?_ <;> cases p <;> simp [State.enact, State.refuse, State.port, State.setPort]
    | read | write | finish | queue =>
      refine heldFor_of_stage ?_ ?_ <;> cases p <;> simp [State.enact, State.port, State.setPort]
  · rename_i hnone
    exact absurd hnone hx

/-- What two ports do one after the other, where each leaves the other's rule alone. -/
theorem atPorts_heldFor {f : State → Port → State} {ready : State → Port → Prop}
    (hasks : ∀ s p, ready s p → ready s.asked p) (hmakes : ∀ s p, ready s p → (f s p).heldFor p)
    (hready : ∀ s p q, q ≠ p → ready s p → ready s q → ready (f s p) q)
    (hkeeps : ∀ s p q, q ≠ p → s.heldFor q → (f s p).heldFor q) {s : State} (h : ∀ p, ready s p) (both : Prop)
    [Decidable both] (p : Port) : (s.atPorts both f).heldFor p := by
  have two {u : State} (hu : ∀ p, ready u p) {q r : Port} (hab : r ≠ q) (hp : p = q ∨ p = r) :
      (f (f u q) r).heldFor p := by
    obtain rfl | rfl := hp
    · exact hkeeps _ _ _ hab.symm (hmakes _ _ (hu p))
    · exact hmakes _ _ (hready _ _ _ hab (hu _) (hu _))
  unfold State.atPorts
  split
  · split
    · exact two (fun p => hasks _ _ (h p)) nofun (by cases p <;> simp)
    · exact two (fun p => hasks _ _ (h p)) nofun (by cases p <;> simp)
  · exact two h nofun (by cases p <;> simp)

theorem takeDecision_heldFor_other {s : State} {p q : Port} (hq : q ≠ p) (h : s.heldFor q) :
    (s.takeDecision p).heldFor q :=
  heldFor_congr h (takeDecision_port hq) (by simp) (by simp) (by simp)

theorem txn_of_stage {s : State} (h : s.portsSound) {p : Port} (hp : (s.port p).stage ≠ .idle) :
    (s.port p).txn ≠ none := fun e => hp (((portsSound_iff.mp h) p).1.mpr e)

/-- Every held write retakes its decision; a decision that stood open has none (R70). -/
theorem retake_heldFor {s : State} (hs : s.hostSound) (h : ∀ p, (s.port p).stage ≠ .held → s.heldFor p) (p : Port) :
    s.retake.heldFor p := by
  refine atPorts_heldFor (ready := fun u p => u.hostSound ∧ ((u.port p).stage ≠ .held → u.heldFor p))
    (fun u q hu => ?_) (fun u q hu => ?_) (fun u q r hne hu hr => ?_) (fun u q r hne hr => ?_) (fun q => ⟨hs, h q⟩) _ p
  · exact ⟨hostSound_congr hu.1 rfl rfl rfl, fun hq => heldFor_congr (hu.2 hq) rfl rfl rfl rfl⟩
  · unfold State.retakeOne
    split
    · rename_i hheld
      exact takeDecision_heldFor (txn_of_stage hu.1.2 (by simp [hheld]))
    · exact hu.2 (by assumption)
  · unfold State.retakeOne
    split
    · refine ⟨takeDecision_hostSound hu.1 q, fun hst => takeDecision_heldFor_other hne (hr.2 ?_)⟩
      rwa [takeDecision_port hne] at hst
    · exact hr
  · unfold State.retakeOne
    split
    · exact takeDecision_heldFor_other hne hr
    · exact hr

/-- Every decision that stood open is taken (R17, R151). -/
theorem finishRetake_heldFor {s : State} (hs : s.hostSound) (h : ∀ p, s.retaking p = false → s.heldFor p) (p : Port) :
    s.finishRetake.heldFor p := by
  refine atPorts_heldFor (ready := fun u p => u.hostSound ∧ (u.retaking p = false → u.heldFor p))
    (fun u q hu => ?_) (fun u q hu => ?_) (fun u q r hne hu hr => ?_) (fun u q r hne hr => ?_) (fun q => ⟨hs, h q⟩) _ p
  · exact ⟨hostSound_congr hu.1 rfl rfl rfl, fun hq => heldFor_congr (hu.2 hq) rfl rfl rfl rfl⟩
  · unfold State.finishRetakeOne
    split
    · rename_i hdec
      refine takeDecision_heldFor (txn_of_stage hu.1.2 fun e => ?_)
      simp [State.retaking, e] at hdec
    · rename_i hdec
      exact hu.2 (by simpa using hdec)
  · unfold State.finishRetakeOne
    split
    · refine ⟨takeDecision_hostSound hu.1 q, fun hst => takeDecision_heldFor_other hne (hr.2 ?_)⟩
      rwa [retaking_congr (takeDecision_port hne)] at hst
    · exact hr
  · unfold State.finishRetakeOne
    split
    · exact takeDecision_heldFor_other hne hr
    · exact hr

/-- A held write that stands in DECIDING beside what comes next waits for nothing (R70, log 31). -/
theorem deciding_heldFor {s : State} {p : Port} (h : s.jc.op = .none ∧ s.fence.state = .normal) :
    (s.deciding p).heldFor p := by
  refine ⟨fun e => ?_, fun _ => by simpa using h⟩
  cases p <;> simp [State.deciding, State.port, State.setPort] at e

theorem deciding_port {s : State} {p q : Port} (h : q ≠ p) : (s.deciding p).port q = s.port q :=
  (port_setPort s p q _).trans (if_neg (Ne.symm h))

/-- The fence has returned to NORMAL: held writes retake their decisions, or stand in DECIDING for an acceptance or a
fall that comes next (R70, R150, R151). -/
theorem retakeAtFence_heldFor {s : State} {b : Bool} (hs : s.hostSound)
    (hb : b = true → s.jc.op = .none ∧ s.fence.state = .normal)
    (h : ∀ p, (s.port p).stage ≠ .held → s.heldFor p) (p : Port) : (s.retakeAtFence b).heldFor p := by
  refine atPorts_heldFor (ready := fun u p => u.hostSound ∧ (b = true → u.jc.op = .none ∧ u.fence.state = .normal)
      ∧ ((u.port p).stage ≠ .held → u.heldFor p))
    (fun u q hu => ?_) (fun u q hu => ?_) (fun u q r hne hu hr => ?_) (fun u q r hne hr => ?_)
    (fun q => ⟨hs, hb, h q⟩) _ p
  · obtain ⟨h1, h2, h3⟩ := hu
    exact ⟨hostSound_congr h1 rfl rfl rfl, h2, fun hq => heldFor_congr (h3 hq) rfl rfl rfl rfl⟩
  · obtain ⟨h1, h2, h3⟩ := hu
    obtain ⟨hst, e⟩ | ⟨hst, e | ⟨hcomes, e | e⟩⟩ := retakeOneAtFence_cases b u q <;> rw [e]
    · exact h3 hst
    · exact takeDecision_heldFor (txn_of_stage h1.2 (by simp [hst]))
    · exact takeDecision_heldFor (s := u.asked) (txn_of_stage (s := u) h1.2 (by simp [hst]))
    · exact deciding_heldFor (h2 hcomes)
  · obtain ⟨h1, h2, -⟩ := hu
    obtain ⟨-, -, h3⟩ := hr
    have h1' : u.asked.hostSound := hostSound_congr h1 rfl rfl rfl
    obtain ⟨hst, e⟩ | ⟨hst, e | ⟨hcomes, e | e⟩⟩ := retakeOneAtFence_cases b u q <;> rw [e]
    · exact ⟨h1, h2, h3⟩
    · refine ⟨takeDecision_hostSound h1 q, by simpa using h2, fun hr => takeDecision_heldFor_other hne (h3 ?_)⟩
      rwa [takeDecision_port hne] at hr
    · refine ⟨takeDecision_hostSound h1' q, by simpa using h2, fun hr => takeDecision_heldFor_other hne (h3 ?_)⟩
      rwa [takeDecision_port hne] at hr
    · refine ⟨deciding_hostSound h1' hst, by simpa using h2, fun hr => ?_⟩
      rw [deciding_port hne] at hr
      exact heldFor_congr (h3 hr) (deciding_port hne) (by simp) (by simp) (by simp)
  · obtain ⟨hst, e⟩ | ⟨hst, e | ⟨hcomes, e | e⟩⟩ := retakeOneAtFence_cases b u q <;> rw [e]
    · exact hr
    · exact takeDecision_heldFor_other hne hr
    · exact takeDecision_heldFor_other (s := u.asked) hne hr
    · exact heldFor_congr hr (deciding_port (s := u.asked) hne) (by simp) (by simp) (by simp)

/-! ## The Journal Controller's work -/

/-- From s to t the Journal Controller has worked: no cause that holds a write has ended, or every held write has
retaken its decision (R70, R121). -/
def State.movesOn (s t : State) : Prop :=
  ∃ u : State, u.portA = s.portA ∧ u.portB = s.portB
    ∧ ((t = u ∧ (s.jc.state = .recovering ∨ (u.fence = s.fence
        ∧ (u.jc.state = s.jc.state ∨ (s.pathMode ≠ .writeHold ∧ u.jc.state ≠ .recovering)))))
      ∨ (t = u.retake ∧ s.journalOnly u))

theorem movesOn_of_same {s t : State} (ha : t.portA = s.portA) (hb : t.portB = s.portB) (hfence : t.fence = s.fence)
    (hstate : t.jc.state = s.jc.state) : s.movesOn t := ⟨t, ha, hb, .inl ⟨rfl, .inr ⟨hfence, .inl hstate⟩⟩⟩

theorem movesOn_retake {s u : State} (h : s.journalOnly u) : s.movesOn u.retake :=
  ⟨u, h.portA, h.portB, .inr ⟨rfl, h⟩⟩

/-- The operation ends on a path that held no write. -/
theorem movesOn_ends {s t : State} (ha : t.portA = s.portA) (hb : t.portB = s.portB) (hfence : t.fence = s.fence)
    (hpath : s.pathMode ≠ .writeHold) (hstate : t.jc.state ≠ .recovering) : s.movesOn t :=
  ⟨t, ha, hb, .inl ⟨rfl, .inr ⟨hfence, .inr ⟨hpath, hstate⟩⟩⟩⟩

/-- Items of the Journal Controller change, with more work to come. -/
theorem movesOn_after {s v t : State} (h : v.movesOn t) (hj : s.journalOnly v) (hfence : v.fence = s.fence)
    (hstate : v.jc.state = s.jc.state) : s.movesOn t := by
  obtain ⟨u, ha, hb, hu⟩ := h
  refine ⟨u, ha.trans hj.portA, hb.trans hj.portB, ?_⟩
  obtain ⟨rfl, hu⟩ | ⟨rfl, hu⟩ := hu
  · unfold State.pathMode at hu ⊢
    rw [hfence, hstate] at hu
    exact .inl ⟨rfl, hu⟩
  · exact .inr ⟨rfl, journalOnly_trans hj hu⟩

theorem setJc_movesOn {s t : State} {j : Journal} (h : (s.setJc j).movesOn t) (hdrain : ∀ p ∈ j.drain, p ∈ s.jc.drain)
    (hstate : j.state = s.jc.state) : s.movesOn t :=
  movesOn_after (v := s.setJc j) h (journalOnly_of_arb rfl rfl rfl rfl hdrain) rfl hstate

theorem writeAnchor_movesOn (s : State) (x : Step) (e : Word) (ph : Phase) (g : Geometry) (c : Setup) :
    s.movesOn ((s.setStep x).writeAnchor e ph g c) := movesOn_of_same rfl rfl rfl rfl

theorem startAdvance_movesOn (s : State) : s.movesOn s.startAdvance := by
  unfold State.startAdvance
  dsimp only
  split <;> exact writeAnchor_movesOn s _ _ _ _ _

theorem requestScrub_movesOn (s : State) (n : Nat) : s.movesOn (s.requestScrub n) := movesOn_of_same rfl rfl rfl rfl

theorem startScrub_movesOn (s : State) : s.movesOn s.startScrub := movesOn_of_same rfl rfl rfl rfl

theorem endRollback_movesOn {s : State} (h : s.pathMode ≠ .writeHold) (rb : Rollback) : s.movesOn (s.endRollback rb) := by
  unfold State.endRollback
  repeat' split
  · exact startAdvance_movesOn s
  · exact movesOn_ends rfl rfl rfl h nofun
  · exact movesOn_ends rfl rfl rfl h nofun

theorem rollTo_movesOn {s : State} (h : s.pathMode ≠ .writeHold) (rb : Rollback) : s.movesOn (s.rollTo rb) := by
  unfold State.rollTo
  dsimp only
  split
  · exact movesOn_of_same rfl rfl rfl rfl
  · exact setJc_movesOn (endRollback_movesOn (by exact h) _) (fun _ h => h) rfl

theorem startRollback_movesOn {s : State} (h : s.pathMode ≠ .writeHold) : s.movesOn s.startRollback := by
  unfold State.startRollback State.setStep
  exact setJc_movesOn (rollTo_movesOn (by exact h) _) (fun _ h => h) rfl

theorem endScan_movesOn {s : State} (h : s.pathMode ≠ .writeHold) (reason : StopReason) (cls : Option SlotClass)
    (k n line : Nat) : s.movesOn (s.endScan reason cls k n line) := by
  unfold State.endScan
  dsimp only
  refine movesOn_after (v := (s.setJc { s.jc with fill := k, scan := none }).setFilter .empty) ?_
    (journalOnly_of_arb rfl rfl rfl rfl (fun _ h => h)) rfl rfl
  repeat' split
  · exact movesOn_ends rfl rfl rfl h nofun
  · exact movesOn_ends rfl rfl rfl h nofun
  · exact setJc_movesOn (startRollback_movesOn (by exact h)) (fun _ h => h) rfl
  · exact movesOn_ends rfl rfl rfl h nofun
  · exact startRollback_movesOn (by exact h)

theorem scanTo_movesOn {s : State} (h : s.pathMode ≠ .writeHold) (k : Nat) : s.movesOn (s.scanTo k) := by
  unfold State.scanTo
  dsimp only
  split
  · exact movesOn_of_same rfl rfl rfl rfl
  · exact setJc_movesOn (endScan_movesOn (by exact h) _ _ _ _ _) (fun _ h => h) rfl

theorem startScan_movesOn {s : State} (h : s.pathMode ≠ .writeHold) (x : Step) : s.movesOn (s.startScan x) := by
  unfold State.startScan State.setStep
  exact setJc_movesOn (scanTo_movesOn (by exact h) _) (fun _ h => h) rfl

theorem scanSlot_movesOn {s : State} (h : s.pathMode ≠ .writeHold) (k : Nat) (bs : List Byte) (merr : Bool) :
    s.movesOn (s.scanSlot k bs merr) := by
  unfold State.scanSlot
  dsimp only
  repeat' split
  · exact scanTo_movesOn h _
  · exact movesOn_of_same rfl rfl rfl rfl
  · exact endScan_movesOn h _ _ _ _ _
  · exact endScan_movesOn h _ _ _ _ _

theorem rollbackSlot_movesOn {s : State} (h : s.pathMode ≠ .writeHold) (rb : Rollback) (bs : List Byte) (merr : Bool) :
    s.movesOn (s.rollbackSlot rb bs merr) := by
  unfold State.rollbackSlot
  dsimp only
  repeat' split
  · exact movesOn_of_same rfl rfl rfl rfl
  · exact rollTo_movesOn h _
  · exact rollTo_movesOn h _

theorem scrubbed_movesOn (s : State) (n : Nat) : s.movesOn (s.scrubbed n) := by
  unfold State.scrubbed
  dsimp only
  repeat' split
  all_goals exact movesOn_of_same rfl rfl rfl rfl

/-- Outside COMMIT and APPLY no operation holds writes (R6, R15). -/
theorem pathMode_of_op {s : State} (hop : s.operationSound) (ho : s.jc.op = .abort ∨ s.jc.op = .recovery) :
    s.pathMode ≠ .writeHold := by
  unfold State.operationSound at hop
  unfold State.pathMode
  intro e
  cases hst : s.jc.state <;> simp_all [JournalState.pathMode, JournalState.longOp]

theorem completeAdvance_movesOn {s : State} (hop : s.operationSound) (e : Word) : s.movesOn (s.completeAdvance e) := by
  have emptied := setFilter_journalOnly s .empty
  unfold State.completeAdvance
  split
  · exact movesOn_retake (journalOnly_trans emptied (endOperation_journalOnly _ _ _ _ _))
  · rename_i ho
    exact movesOn_ends rfl rfl rfl (pathMode_of_op hop (.inl ho)) nofun
  · rename_i ho
    dsimp only
    split <;> exact movesOn_ends rfl rfl rfl (pathMode_of_op hop (.inr ho)) nofun
  all_goals exact movesOn_of_same rfl rfl rfl rfl

theorem completeApply_movesOn (s : State) : s.movesOn s.completeApply := by
  unfold State.completeApply
  refine movesOn_retake (journalOnly_trans (journalOnly_trans ?_ (adoptFence_journalOnly _ _))
    (endOperation_journalOnly _ _ _ _ _))
  exact journalOnly_of_arb rfl rfl rfl rfl (fun _ h => h)

theorem completeFormat_movesOn (s : State) : s.movesOn s.completeFormat := by
  unfold State.completeFormat
  refine movesOn_retake (journalOnly_trans (journalOnly_trans ?_ (adoptFence_journalOnly _ _))
    (setJc_journalOnly (endOperation_journalOnly _ _ _ _ _) (fun _ h => h)))
  exact journalOnly_of_arb rfl rfl rfl rfl (fun _ h => h)

theorem drainDone_movesOn {s : State} (hop : s.operationSound) : s.movesOn s.drainDone := by
  unfold State.drainDone
  repeat' split
  · exact startAdvance_movesOn s
  · rename_i ho
    exact startRollback_movesOn (pathMode_of_op hop (.inl ho))
  · exact writeAnchor_movesOn s _ _ _ _ _
  · exact movesOn_retake (endOperation_journalOnly _ _ _ _ _)
  · exact startScrub_movesOn s
  all_goals exact movesOn_of_same rfl rfl rfl rfl

theorem portResponded_movesOn {s : State} (hop : s.operationSound) (p : Port) : s.movesOn (s.portResponded p) := by
  unfold State.portResponded
  dsimp only
  repeat' split
  · exact setJc_movesOn (drainDone_movesOn (by exact hop)) (fun _ h => List.mem_of_mem_filter h) rfl
  · exact movesOn_of_same rfl rfl rfl rfl
  · exact movesOn_of_same rfl rfl rfl rfl

theorem anchorDone_movesOn {s : State} (hop : s.operationSound) : s.movesOn s.anchorDone := by
  unfold State.anchorDone
  repeat' split
  · exact startScrub_movesOn s
  · exact completeAdvance_movesOn hop _
  · exact completeAdvance_movesOn hop _
  · exact completeApply_movesOn s
  · exact writeAnchor_movesOn s _ _ _ _ _
  · exact completeFormat_movesOn s
  all_goals exact movesOn_of_same rfl rfl rfl rfl

/-- No write is held while recovery reads the copies (R121). -/
theorem copyRead_movesOn {s : State} (h : s.jc.state = .recovering) (k : Copy) (a : Option Anchor) :
    s.movesOn (s.copyRead k a) := by
  have hports := copyRead_journalOnly s k a
  exact ⟨_, hports.portA, hports.portB, .inl ⟨rfl, .inl h⟩⟩

/-- With an operation in progress no decision stands open, and the work leaves none held without a cause (R70). -/
theorem movesOn_heldFor {s t : State} (hs : s.hostSound) (hop : s.jc.op ≠ .none) (h : ∀ p, s.heldFor p)
    (hm : s.movesOn t) (p : Port) : t.heldFor p := by
  have none_retaking q : s.retaking q = false := by
    by_contra hr
    exact hop ((h q).2 (by simpa using hr)).1
  obtain ⟨u, ha, hb, ⟨rfl, hu⟩ | ⟨rfl, hj⟩⟩ := hm
  · have hport := port_congr (s := s) ha hb p
    refine ⟨fun hheld => ?_, fun hr => ?_⟩
    · obtain ⟨hcause, hst⟩ := (h p).1 (hport ▸ hheld)
      obtain ⟨hfence, hstate | ⟨hpath, hrec⟩⟩ := hu.resolve_left hst
      · exact ⟨(holding_congr hstate hfence).mpr hcause, hstate ▸ hst⟩
      · refine ⟨.inr ?_, hrec⟩
        rw [hfence]
        exact hcause.resolve_left hpath
    · rw [retaking_congr hport, none_retaking] at hr
      cases hr
  · refine retake_heldFor ⟨journalOnly_arbiterServes hj hs.1, portsSound_congr hs.2 ha hb⟩ (fun q hq => ?_) p
    refine ⟨fun e => absurd e hq, fun hr => ?_⟩
    rw [retaking_congr (port_congr ha hb q), none_retaking] at hr
    cases hr

/-- With no write held, the work changes no port at all (R70). -/
theorem movesOn_ports {s t : State} (hm : s.movesOn t) (h : s.noneHeld) : t.portA = s.portA ∧ t.portB = s.portB := by
  obtain ⟨u, ha, hb, ⟨rfl, -⟩ | ⟨rfl, -⟩⟩ := hm
  · exact ⟨ha, hb⟩
  · have hu : u.noneHeld := by
      unfold State.noneHeld at *
      rwa [ha, hb]
    rw [retake_noneHeld hu]
    exact ⟨ha, hb⟩

end Sys2Proof.Machine
end

section
/-! PROOFS. O55: the rule of held writes and open decisions, over the events (R69 to R71, R151). -/
namespace Sys2Proof.Machine

open Sys2Proof

/-- A memory operation of the Journal Controller in progress is one of a long operation (R98, R120). -/
theorem op_of_current {s : State} {op : MemOp} (h : s.stepWork) (hone : s.journalSingle)
    (hcur : s.arb.current = some (.journal, op)) : s.jc.op ≠ .none := by
  have hout : s.outstanding .journal ≠ none := by simp [outstanding_of_current hone hcur]
  unfold State.stepWork at h
  split at h
  · exact absurd h.2.2.2.2.2.1 hout
  · exact absurd h.2.2.2.2.2.1 hout
  all_goals
    intro e
    simp [e] at h

/-- A drain belongs to a long operation (R82). -/
theorem op_of_drain {s : State} (h : s.stepWork) {p : Port} (hp : p ∈ s.jc.drain) : s.jc.op ≠ .none := by
  have hstep := draining_of_mem h hp
  unfold State.stepWork at h
  rw [hstep] at h
  obtain ⟨-, -, -, -, -, -, ho, -⟩ := h
  exact ho

/-- With no operation in progress and the fence NORMAL nothing holds a write (R69). -/
theorem noneHeld_of_idle {s : State} (hop : s.operationSound) (ho : s.jc.op = .none) (hfence : s.fence.state = .normal)
    (h : ∀ p, s.heldFor p) : s.noneHeld := by
  have nothing : ¬ s.holding := by
    rintro (hpath | ⟨hf, -⟩)
    · unfold State.operationSound at hop
      rw [ho] at hop
      cases hst : s.jc.state <;> simp_all [State.pathMode, JournalState.pathMode, JournalState.longOp]
    · exact hf hfence
  exact ⟨fun e => nothing ((h .a).1 e).1, fun e => nothing ((h .b).1 e).1⟩

/-- The drain of an accepted operation leaves ports that hold nothing as they are (R82). -/
theorem startDrain_ports {s : State} (hop : s.operationSound) (hnone : s.noneHeld) (ports : List Port) :
    (s.startDrain ports).portA = s.portA ∧ (s.startDrain ports).portB = s.portB := by
  unfold State.startDrain
  dsimp only
  split
  · have hm := drainDone_movesOn (s := s.setJc { s.jc with step := some .draining, drain := ports }) hop
    obtain ⟨ha, hb⟩ := movesOn_ports hm hnone
    exact ⟨ha, hb⟩
  · exact ⟨rfl, rfl⟩

/-- The decisions that stood open are taken at an acceptance, and no write is held there (R17, R70). -/
theorem accepted_heldFor {s u : State} (hu : u.hostSound) (hnone : s.noneHeld)
    (hports : u.portA = s.portA ∧ u.portB = s.portB) (p : Port) : u.finishRetake.heldFor p := by
  refine finishRetake_heldFor hu (fun q hq => ⟨fun e => ?_, fun e => by rw [hq] at e; cases e⟩) p
  rw [port_congr hports.1 hports.2] at e
  cases q
  · exact absurd e hnone.1
  · exact absurd e hnone.2

/-- A port whose transaction is over is waited for no longer; the operation may go on (R82). -/
theorem portResponded_heldFor {s : State} (hs : s.hostSound) (hop : s.operationSound)
    (hdrain : ∀ p ∈ s.jc.drain, s.jc.op ≠ .none) (h : ∀ p, s.heldFor p) (p q : Port) : (s.portResponded p).heldFor q := by
  by_cases hp : p ∈ s.jc.drain
  · exact movesOn_heldFor hs (hdrain p hp) h (portResponded_movesOn hop p) q
  · rw [portResponded_outside hp]
    exact h q

/-- A port leaves DECIDING and HELD, and the others stay. -/
theorem heldFor_move {s t : State} {p : Port} (h : ∀ q, s.heldFor q) (hport : ∀ q, q ≠ p → t.port q = s.port q)
    (h1 : (t.port p).stage ≠ .held) (h2 : (t.port p).stage ≠ .deciding) (hjc : t.jc = s.jc) (hfence : t.fence = s.fence)
    (q : Port) : t.heldFor q := by
  by_cases hq : q = p
  · subst hq; exact heldFor_of_stage h1 h2
  · exact heldFor_congr (h q) (hport q hq) (by rw [hjc]) (by rw [hjc]) hfence

theorem handBack_port {s : State} {p q : Port} (h : q ≠ p) : (s.handBack p).port q = s.port q := by
  unfold State.handBack
  split
  · exact (port_setPort s p q _).trans (if_neg (Ne.symm h))
  · rfl

/-- A write handed back stands in IN_MEMORY; one that was not there leaves the port as it is (R76). -/
theorem handBack_heldFor {s : State} (h : ∀ q, s.heldFor q) (p q : Port) : (s.handBack p).heldFor q := by
  cases hx : (s.port p).txn with
  | none =>
    have : s.handBack p = s := by simp [State.handBack, hx]
    rw [this]
    exact h q
  | some x =>
    have hstage : ((s.handBack p).port p).stage = .inMemory := by
      cases p <;> simp_all [State.handBack, State.port, State.setPort]
    exact heldFor_move (p := p) h (fun q hq => handBack_port hq) (by simp [hstage]) (by simp [hstage]) (by simp) (by simp) q

theorem refuse_stage (s : State) (p : Port) (x : Txn) (why : Reason) :
    ((s.refuse p x why).port p).stage = .responding := by
  cases p <;> simp [State.refuse, State.port, State.setPort]

/-- A refusal ends its port's transaction, and the drain waits for it no longer (R72, R82). -/
theorem refuseEntry_heldFor {s : State} (hs : s.hostSound) (hop : s.operationSound)
    (hdrain : ∀ p ∈ s.jc.drain, s.jc.op ≠ .none) (h : ∀ p, s.heldFor p) (e : Entry) (why : Reason) (q : Port) :
    (s.refuseEntry e why).heldFor q := by
  have hfreed : (s.setEngine { s.engine with current := none }).hostSound := hostSound_congr hs rfl rfl rfl
  have heldf p : (s.setEngine { s.engine with current := none }).heldFor p := heldFor_congr (h p) rfl rfl rfl rfl
  unfold State.refuseEntry
  dsimp only
  split
  · rename_i x _
    refine portResponded_heldFor (refuse_hostSound hfreed _ _ _) ?_ ?_ ?_ _ _
    · simpa [State.operationSound] using hop
    · simpa using hdrain
    · exact heldFor_move (p := e.port) heldf (fun q hq => refuse_port hq _ _) (by simp [refuse_stage])
        (by simp [refuse_stage]) (by simp) (by simp)
  · exact heldf q

theorem hostReadDone_heldFor {s : State} (h : ∀ p, s.heldFor p) (p : Port) (op : MemOp) (merr : Bool) (q : Port) :
    (s.hostReadDone p op merr).heldFor q := by
  cases hx : (s.port p).txn with
  | none =>
    have : s.hostReadDone p op merr = s := by simp [State.hostReadDone, hx]
    rw [this]
    exact h q
  | some x =>
    have hstage : ((s.hostReadDone p op merr).port p).stage = .responding := by
      unfold State.hostReadDone
      rw [hx]
      dsimp only
      split
      · exact refuse_stage _ _ _ _
      · simp
    exact heldFor_move (p := p) h (fun q hq => hostReadDone_port hq _ _) (by simp [hstage]) (by simp [hstage]) (by simp)
      (by simp) q

theorem hostWriteDone_heldFor {s : State} (h : ∀ p, s.heldFor p) (p q : Port) : (s.hostWriteDone p).heldFor q := by
  cases hx : (s.port p).txn with
  | none =>
    have : s.hostWriteDone p = s := by simp [State.hostWriteDone, hx]
    rw [this]
    exact h q
  | some x =>
    have hstage : ((s.hostWriteDone p).port p).stage = .responding := by
      cases p <;> simp_all [State.hostWriteDone, State.port, State.setPort]
    exact heldFor_move (p := p) h (fun q hq => hostWriteDone_port hq) (by simp [hstage]) (by simp [hstage]) (by simp)
      (by simp) q

/-- A fence that goes up, or stays up under LATCHED, holds what was held (R149, R150). -/
theorem holding_of_up {s t : State} (h : s.holding) (hstate : t.jc.state = s.jc.state)
    (haction : t.fence.action = s.fence.action) (hup : t.fence.state ≠ .normal) : t.holding := by
  unfold State.holding State.pathMode at *
  rw [hstate, haction]
  exact h.imp_right fun h => ⟨hup, h.2⟩

/-- PFAIL# falls: the decisions that stood open meet the fence (R149, R151). -/
theorem falls_heldFor {s : State} (hs : s.hostSound) (h : ∀ p, s.heldFor p) (x : Pins) (p : Port) :
    (((s.setPins x).changeFence .fenced).finishRetake).heldFor p := by
  refine finishRetake_heldFor ?_ (fun q hq => ⟨fun e => ?_, fun e => ?_⟩) p
  · exact hostSound_congr hs rfl rfl rfl
  · obtain ⟨h1, h2⟩ := (h q).1 e
    exact ⟨holding_of_up h1 rfl rfl nofun, h2⟩
  · rw [hq] at e
    cases e

/-- The fence returns to NORMAL from a state in which it was up, so that no decision stood open (R150, R151). -/
theorem returns_heldFor {s : State} (hs : s.hostSound) (h : ∀ p, s.heldFor p) (hup : s.fence.state ≠ .normal) (b : Bool)
    (hb : b = true → s.jc.op = .none) (p : Port) : ((s.changeFence .normal).retakeAtFence b).heldFor p := by
  refine retakeAtFence_heldFor (s := s.changeFence .normal) ?_ (fun e => ⟨hb e, rfl⟩) (fun q hq => ?_) p
  · exact hostSound_congr hs rfl rfl rfl
  · exact ⟨fun e => absurd e hq, fun e => absurd ((h q).2 e).2 hup⟩

theorem rises_heldFor {s : State} (hs : s.hostSound) (h : ∀ p, s.heldFor p) (hup : s.fence.state ≠ .normal) (p : Port) :
    s.pfailRises.heldFor p := by
  unfold State.pfailRises
  split
  · exact returns_heldFor hs h hup (s.changeFence .normal).acceptanceNext (fun e => (acceptanceNext_idle e).1) p
  · refine ⟨fun e => ?_, fun e => absurd ((h p).2 e).2 hup⟩
    obtain ⟨h1, h2⟩ := (h p).1 e
    exact ⟨holding_of_up h1 rfl rfl nofun, h2⟩

/-- A reset leaves the ports IDLE (R119). -/
theorem resetBlocks_heldFor (s : State) (c : StartCause) (p : Port) : (s.resetBlocks c).heldFor p := by
  refine heldFor_of_stage ?_ ?_ <;> cases p <;> nofun

/-- In a lasting reset no write is held and no decision stands open, and so recovery starts with none (R71, R121). -/
theorem ends_heldFor {s t : State} (hw : s.workSound) (hreset : s.inReset = true) (h : ∀ p, s.heldFor p)
    (ha : t.portA = s.portA) (hb : t.portB = s.portB) (p : Port) : t.heldFor p := by
  obtain ⟨-, -, hst⟩ := handFree_of_reset hw hreset
  have hop : s.jc.op = .recovery := by
    have := hw.2.1
    unfold State.operationSound at this
    rw [this, hst]
    rfl
  have hport := port_congr (s := s) ha hb p
  refine ⟨fun e => absurd hst ((h p).1 (hport ▸ e)).2, fun e => ?_⟩
  rw [retaking_congr hport] at e
  rw [((h p).2 e).1] at hop
  cases hop

theorem Event_heldFor {s t : State} {c : Instr} (he : s.Event c t) (hs : s.hostSound) (hf : s.fenceSound)
    (hw : s.workSound) (h : ∀ p, s.heldFor p) (p : Port) : t.heldFor p := by
  obtain ⟨hstep, hop, hnone, hone⟩ := id hw
  have hdrain : ∀ p ∈ s.jc.drain, s.jc.op ≠ .none := fun p hp => op_of_drain hstep hp
  have same {u : State} (ha : u.portA = s.portA) (hb : u.portB = s.portB) (hjc : u.jc = s.jc)
      (hfence : u.fence = s.fence) q : u.heldFor q :=
    heldFor_congr (h q) (port_congr ha hb q) (by rw [hjc]) (by rw [hjc]) hfence
  have settled {u : State} (hu : u.heldFor p) : (u.settle s.arb).heldFor p :=
    heldFor_congr hu (port_congr (by simp) (by simp) p) (by simp) (by simp) (by simp)
  have framed {u : State} (hu : u.heldFor p) (k : Option Frame) : ((u.setFrame k).settle s.arb).heldFor p :=
    settled (heldFor_congr hu rfl rfl rfl rfl)
  have noneHeld (ho : s.jc.op = .none) (hfence : s.fence.state = .normal) : s.noneHeld :=
    noneHeld_of_idle hop ho hfence h
  have accepted st op (ho : s.jc.op = .none) (hfence : s.fence.state = .normal) {u : State}
      (hu : (s.accept st op).works u) (hports : u.portA = s.portA ∧ u.portB = s.portB) (k : Option Frame) :
      ((u.finishRetake.setFrame k).settle s.arb).heldFor p :=
    framed (accepted_heldFor (works_hostSound hu (hostSound_congr hs rfl rfl rfl)) (noneHeld ho hfence) hports p) k
  have drained st (ho : s.jc.op = .none) (hfence : s.fence.state = .normal) (ports : List Port) (k : Option Frame) :
      ((((s.accept st st.longOp).startDrain ports).finishRetake.setFrame k).settle s.arb).heldFor p :=
    framed (accepted_heldFor (works_hostSound (startDrain_works (s.accept st st.longOp) ports)
      (hostSound_congr hs rfl rfl rfl)) (noneHeld ho hfence)
      (startDrain_ports (s := s.accept st st.longOp) rfl (noneHeld ho hfence) ports) p) k
  have rel := release_hostSound hs
  have relHeld q : s.release.heldFor q := same rfl rfl rfl rfl q
  have worked {op : MemOp} (hcur : s.arb.current = some (.journal, op)) {v u : State} (hm : v.movesOn u)
      (hv : v.hostSound) (hjc : v.jc = s.jc) (ha : v.portA = s.portA) (hb : v.portB = s.portB)
      (hfence : v.fence = s.fence) : (u.settle s.arb).heldFor p :=
    settled (movesOn_heldFor hv (hjc ▸ op_of_current hstep hone hcur) (same ha hb hjc hfence) hm p)
  have stored op : (s.release.storeCells op).hostSound := hostSound_congr rel rfl rfl rfl
  cases he with
  | idles => exact h p
  | follows => exact same rfl rfl rfl rfl p
  | samples => exact same rfl rfl rfl rfl p
  | begins _ why cut => exact heldFor_congr (resetBlocks_heldFor (s.tear cut) why p) (by cases p <;> rfl) rfl rfl rfl
  | ends _ m x _ hreset => exact ends_heldFor hw hreset h (by simp) (by simp) p
  | softResets cut => refine heldFor_of_stage ?_ ?_ <;> cases p <;> simp [State.port, State.beginReset, State.resetBlocks]
  | frames => exact same rfl rfl rfl rfl p
  | falls => exact settled (falls_heldFor hs h _ p)
  | rises hreset hlow =>
    refine settled (rises_heldFor ?_ ?_ ?_ p)
    · exact hostSound_congr hs rfl rfl rfl
    · exact same rfl rfl rfl rfl
    · simp [(hf.1 hreset).mpr hlow]
  | releases f k _ ho _ hlatched =>
    exact framed (returns_heldFor hs h (by simp [hlatched]) _ (fun _ => ho) p) k
  | commits _ k _ ho hfence => exact drained .committing ho hfence _ k
  | commitsDamaged _ k _ ho hfence =>
    exact accepted _ _ ho hfence (works_of_journalOnly (startAdvance_journalOnly _)) (by simp) k
  | aborts _ k _ ho hfence => exact drained .aborting ho hfence _ k
  | abortsDamaged _ k _ ho hfence =>
    exact accepted _ _ ho hfence (works_of_journalOnly (startScan_journalOnly _ _)) (by simp) k
  | formats _ k _ ho hfence => exact drained .formatting ho hfence _ k
  | applies _ k _ ho hfence => exact drained .applying ho hfence _ k
  | presents q x =>
    refine if hq : p = q then ?_ else heldFor_congr (h p) ((port_setPort s q p _).trans (if_neg (Ne.symm hq))) (by simp)
      (by simp) (by simp)
    subst hq
    exact ⟨by simp, by simp [State.retaking, presentedTxn]⟩
  | responds q =>
    exact heldFor_move (p := q) h (fun r hr => (port_setPort s q r _).trans (if_neg (Ne.symm hr))) (by simp) (by simp)
      (by simp) (by simp) p
  | decides q _ hstage =>
    refine settled ?_
    by_cases hq : p = q
    · subst hq
      exact takeDecision_heldFor (txn_of_stage hs.2 (by simp [hstage]))
    · exact takeDecision_heldFor_other hq (h p)
  | readCompletes q merr op =>
    refine settled (portResponded_heldFor (hostReadDone_hostSound rel q op merr) ?_ ?_ ?_ q p)
    · simpa [State.operationSound] using hop
    · simpa using hdrain
    · exact hostReadDone_heldFor relHeld q op merr
  | writeCompletes q op =>
    refine settled (portResponded_heldFor (hostWriteDone_hostSound (stored op) q) ?_ ?_ ?_ q p)
    · simpa [State.operationSound] using hop
    · simpa using hdrain
    · exact hostWriteDone_heldFor (s := s.release.storeCells op) (same rfl rfl rfl rfl) q
  | takesEntry e rest =>
    refine settled ?_
    unfold State.takeEntry
    split
    · refine handBack_heldFor ?_ _ p
      exact same rfl rfl rfl rfl
    · exact same rfl rfl rfl rfl p
  | lineRead merr op e =>
    refine settled ?_
    unfold State.lineReadDone
    split
    · exact refuseEntry_heldFor rel hop hdrain relHeld e _ p
    · exact same rfl rfl rfl rfl p
  | reserves e image =>
    refine settled ?_
    unfold State.reserve
    split
    · exact same rfl rfl rfl rfl p
    · exact refuseEntry_heldFor hs hop hdrain h e _ p
  | recordWritten op e n =>
    refine settled (heldFor_congr (h p) (port_congr (by simp) (by simp) p) ?_ ?_ (by simp))
    all_goals
      unfold State.countRecord
      dsimp only
      split <;> simp
  | inserts e n =>
    refine settled (handBack_heldFor ?_ _ p)
    exact same rfl rfl rfl rfl
  | firstPartRead | firstPartWritten =>
    refine settled ?_
    exact same rfl rfl rfl rfl p
  | copyRead merr op k first m _ hcur _ hunit =>
    have hread : s.anchors.reading = true := by simp [Anchors.reading, hunit]
    obtain ⟨-, -, -, -, -, ho⟩ := anchorSearch_of_reading hstep hread
    have hst : s.jc.state = .recovering := by
      unfold State.operationSound at hop
      rw [ho] at hop
      cases hst : s.jc.state <;> simp_all [JournalState.longOp]
    exact worked hcur (copyRead_movesOn (s := s.release) hst k _) rel rfl rfl rfl rfl
  | copyWritten op k seq _ hcur =>
    refine worked hcur (anchorDone_movesOn ?_) ?_ rfl rfl rfl rfl
    · exact hop
    · exact hostSound_congr rel rfl rfl rfl
  | scrubs op n _ hcur => exact worked hcur (scrubbed_movesOn _ n) (stored op) rfl rfl rfl rfl
  | scans merr op sc _ hcur _ hsc =>
    obtain ⟨hscan, -⟩ := scansFor_of_scan hstep (by simp [hsc])
    exact worked hcur (scanSlot_movesOn (s := s.release) (pathMode_of_op hop (hscan.symm.imp And.right And.right)) _ _ _)
      rel rfl rfl rfl rfl
  | looksAhead merr op sc _ hcur _ hsc =>
    obtain ⟨hscan, -⟩ := scansFor_of_scan hstep (by simp [hsc])
    exact worked hcur
      (endScan_movesOn (s := s.release) (pathMode_of_op hop (hscan.symm.imp And.right And.right)) _ _ _ _ _) rel
      rfl rfl rfl rfl
  | rollsBack merr op rb _ hcur hpurpose =>
    obtain ⟨-, -, -, -, -, ho, -⟩ := rollingBack_of_current hstep hone hcur (.inl hpurpose)
    exact worked hcur (rollbackSlot_movesOn (s := s.release) (pathMode_of_op hop ho) rb _ _) rel rfl rfl rfl rfl
  | restores op rb _ hcur hpurpose =>
    obtain ⟨-, -, -, -, -, ho, -⟩ := rollingBack_of_current hstep hone hcur (.inr hpurpose)
    exact worked hcur (rollTo_movesOn (s := s.release.storeCells op) (pathMode_of_op hop ho) _) (stored op) rfl rfl rfl rfl
  | answers | stages | validates =>
    refine settled ?_
    exact same rfl rfl rfl rfl p

/-- Settles O55: a decision that holds finds a holding cause, and every event that ends one lets the held writes decide
anew; what an operation examines is in O56. -/
theorem noWriteIsHeldWithoutACause : Obligations.NoWriteIsHeldWithoutACause := by
  intro c s t ⟨_, _, hf, _, harb, hports, ⟨_, _, hheld⟩, hw, _⟩ h
  obtain ⟨hstep, hop, -⟩ := anOperationAlwaysHasItsWork c s t hw h
  exact ⟨hop, examining_of_stepWork hstep, Event_heldFor (Event_of_exec h) ⟨harb, hports⟩ hf hw hheld⟩

end Sys2Proof.Machine
end

section
/-! PROOFS. O58, the geometries the part works with: each is legal, and without one the part is before its selection,
UNFORMATTED or in its FORMAT (R5, R18, R42, R139, R144). -/
namespace Sys2Proof.Machine

open Sys2Proof

/-- Reading every element of a list succeeds exactly when each reading does. -/
theorem mapM_eq_some_iff {α β : Type} {f : α → Option β} {l : List α} {r : List β} :
    l.mapM f = some r ↔ l.map f = r.map some := by
  induction l generalizing r with
  | nil => cases r <;> simp
  | cons x l ih =>
    rw [List.mapM_cons]
    cases hx : f x with
    | none => cases r <;> simp [hx]
    | some y =>
      cases r with
      | nil => cases hl : l.mapM f <;> simp
      | cons z r =>
        have tail := ih (r := r)
        cases hl : l.mapM f with
        | none => simpa [hx, hl] using fun _ => by simpa [hl] using tail
        | some ys => simpa [hx, hl] using fun _ => by simpa [hl] using tail

/-- A copy that is VALID has eight windows and a geometry that is legal for the part (R87). -/
theorem readAnchor_legal {bs : List Byte} {merr : Bool} {m : MemSize} {a : Anchor} (h : readAnchor bs merr m = some a) :
    a.geom.lawful m ∧ a.setup.windows.length = 8 := by
  unfold readAnchor at h
  split_ifs at h
  obtain ⟨hfields, hlegal⟩ := Option.filter_eq_some_iff.mp h
  refine ⟨?_, ?_⟩
  · simp only [Anchor.legal, Bool.and_eq_true] at hlegal
    obtain ⟨⟨⟨-, hcount⟩, hfits⟩, -⟩ := hlegal
    obtain ⟨h1, h2⟩ := countLegal_iff.mp hcount
    have h3 := fits_iff.mp hfits
    exact ⟨h1, h2, by simpa [Geometry.extentLines] using h3⟩
  · simp only [anchorFields, Option.bind_eq_bind, Option.bind_eq_some_iff, Option.pure_def, Option.some.injEq] at hfields
    obtain ⟨_, _, _, _, _, _, _, _, ws, hws, rfl⟩ := hfields
    have := congrArg List.length (mapM_eq_some_iff.mp hws)
    simpa using this.symm

/-- A READY image has passed the checks on its geometry (R139, R140). -/
theorem lawful_of_validateImage {m : MemSize} {g : Geometry} {c : Setup} (h : validateImage m g c = none) :
    g.lawful m := by
  by_cases hc : g.countLegal = true
  · by_cases hf : g.fits m = true
    · obtain ⟨h1, h2⟩ := countLegal_iff.mp hc
      have h3 := fits_iff.mp hf
      exact ⟨h1, h2, by simpa [Geometry.extentLines] using h3⟩
    · rw [validateImage_of_not_fits hc hf] at h
      cases h
  · rw [validateImage_of_not_countLegal hc] at h
    cases h

/-! ## Every geometry is legal -/

/-- The geometries the part works with are legal, and every configuration has its eight windows (R18, R35). -/
structure State.lawfulConfig (s : State) : Prop where
  windows : s.eightWindows
  active : ∀ g, s.jc.geom = some g → g.lawful s.memSize
  ready : s.store.staging = .ready → s.store.stagedGeom.lawful s.memSize
  format : s.jc.op = .format → s.store.staging = .ready
  held : ∀ a, s.anchors.heldA = some a → a.geom.lawful s.memSize ∧ a.setup.windows.length = 8
  reset : s.inReset = true → s.store.staging = .draft ∧ s.anchors.heldA = none

theorem lawfulConfig_of_geometrySound {s : State} (h : s.geometrySound) : s.lawfulConfig := by
  obtain ⟨h1, h2, h3, h4, h5, h6, -⟩ := h
  exact ⟨h1, h2, h3, h4, h5, h6⟩

theorem restage_staging (c : Store) : c.restage.staging = .draft := by
  unfold Store.restage
  cases c.geom <;> rfl

theorem restage_windows {c : Store} (h : c.active.windows.length = 8) : c.restage.staged.windows.length = 8 := by
  unfold Store.restage
  cases c.geom
  · rfl
  · exact h

theorem lawfulConfig_of_keepsConfig {s t : State} (h : s.keepsConfig t) (hs : s.lawfulConfig) : t.lawfulConfig := by
  have hreset : t.inReset = s.inReset := by simp [State.inReset, h.pins]
  obtain ⟨w1, w2⟩ := hs.windows
  obtain e | ⟨e, hop⟩ := h.store
  · refine ⟨⟨e ▸ w1, e ▸ w2⟩, ?_, ?_, fun ho => ?_, ?_, ?_⟩
    · rw [h.geom, h.memSize]; exact hs.active
    · rw [e, h.memSize]; exact hs.ready
    · rw [e]; exact hs.format (h.operation ho)
    · rw [h.held, h.memSize]; exact hs.held
    · rw [hreset, e, h.held]; exact hs.reset
  · refine ⟨⟨by rw [e]; simpa using w1, by rw [e]; exact restage_windows w1⟩, ?_, fun hr => ?_, fun ho => ?_, ?_,
      fun hr => ?_⟩
    · rw [h.geom, h.memSize]; exact hs.active
    · rw [e, restage_staging] at hr
      cases hr
    · rw [hop] at ho
      cases ho
    · rw [h.held, h.memSize]; exact hs.held
    · rw [e, h.held]
      exact ⟨restage_staging _, (hs.reset (hreset ▸ hr)).2⟩

/-- The laws speak of these items alone. -/
theorem lawfulConfig_congr {s t : State} (hs : s.lawfulConfig) (hstore : t.store = s.store) (hmem : t.memSize = s.memSize)
    (hgeom : t.jc.geom = s.jc.geom) (hop : t.jc.op = .format → s.jc.op = .format)
    (hheld : t.anchors.heldA = s.anchors.heldA) (hreset : t.inReset = s.inReset) : t.lawfulConfig where
  windows := by unfold State.eightWindows; rw [hstore]; exact hs.windows
  active := by rw [hgeom, hmem]; exact hs.active
  ready := by rw [hstore, hmem]; exact hs.ready
  format ho := by rw [hstore]; exact hs.format (hop ho)
  held := by rw [hheld, hmem]; exact hs.held
  reset := by rw [hreset, hstore, hheld]; exact hs.reset

theorem lawfulConfig_settle {b : Arbiter} {s : State} (h : s.lawfulConfig) : (s.settle b).lawfulConfig :=
  lawfulConfig_of_keepsConfig (keepsConfig_settle (keepsConfig_refl s)) h

theorem stage_windows (c : Store) (item : StageItem) :
    (c.stage item).staged.windows.length = c.staged.windows.length ∧ (c.stage item).active = c.active
      ∧ (c.stage item).staging = .draft := by
  cases item <;> simp [Store.stage]

/-- The image is locked in a FORMAT (R137, R140). -/
theorem not_format_of_unlocked {s : State} (hop : s.operationSound) (h : s.stagingLocked = false) :
    s.jc.op ≠ .format := by
  have hst : ¬ (s.jc.state = .recovering ∨ s.jc.state = .applying ∨ s.jc.state = .formatting) := by
    rw [← stagingLocked_iff, h]
    nofun
  unfold State.operationSound at hop
  rw [hop]
  cases hs : s.jc.state <;> simp_all [JournalState.longOp]

theorem resetBlocks_lawfulConfig (s : State) (c : StartCause) : (s.resetBlocks c).lawfulConfig :=
  ⟨⟨rfl, rfl⟩, nofun, nofun, nofun, nofun, fun _ => ⟨rfl, rfl⟩⟩

/-- Recovery takes an anchor that was tested (R87, R123). -/
theorem chosen_lawfulConfig {s : State} (hs : s.lawfulConfig) (hreset : s.inReset = false) (hop : s.jc.op ≠ .format)
    (k : Copy) {x : Anchor} (hx : x.geom.lawful s.memSize ∧ x.setup.windows.length = 8) :
    (s.chosen k x).lawfulConfig where
  windows := ⟨hx.2, hs.windows.2⟩
  active g hg := by
    cases hg
    exact hx.1
  ready := hs.ready
  format ho := absurd ho hop
  held := nofun
  reset hr := absurd (hreset.symm.trans hr) nofun

theorem selectAnchor_lawfulConfig {s : State} (hs : s.lawfulConfig) (hreset : s.inReset = false)
    (hop : s.jc.op ≠ .format) {a b : Option Anchor}
    (ha : ∀ x, a = some x ∨ b = some x → x.geom.lawful s.memSize ∧ x.setup.windows.length = 8) :
    (s.selectAnchor a b).lawfulConfig := by
  obtain ⟨-, e⟩ | ⟨k, x, -, hx, ⟨-, e⟩ | ⟨-, e⟩⟩ := selectAnchor_cases s a b <;> rw [e]
  · refine lawfulConfig_of_keepsConfig (completeRecovery_keepsConfig _ _ _ _ _ _) ?_
    exact ⟨hs.windows, hs.active, hs.ready, hs.format, nofun, fun hr => absurd (hreset.symm.trans hr) nofun⟩
  · exact lawfulConfig_of_keepsConfig (startScrub_keepsConfig _) (chosen_lawfulConfig hs hreset hop k (ha x hx))
  · exact lawfulConfig_of_keepsConfig (startScan_keepsConfig _ _) (chosen_lawfulConfig hs hreset hop k (ha x hx))

theorem copyRead_lawfulConfig {s : State} (hs : s.lawfulConfig) (hreset : s.inReset = false) (hop : s.jc.op ≠ .format)
    (k : Copy) {a : Option Anchor} (ha : ∀ x, a = some x → x.geom.lawful s.memSize ∧ x.setup.windows.length = 8) :
    (s.copyRead k a).lawfulConfig := by
  cases k
  · exact ⟨hs.windows, hs.active, hs.ready, hs.format, ha, fun hr => absurd (hreset.symm.trans hr) nofun⟩
  · refine selectAnchor_lawfulConfig (s := s.setAnchors { s.anchors with validB := validity a })
      (lawfulConfig_congr hs rfl rfl rfl id rfl rfl) hreset hop fun x hx => ?_
    exact hx.elim (hs.held x) (ha x)

theorem completeApply_lawfulConfig {s : State} (hs : s.lawfulConfig) (hreset : s.inReset = false) :
    s.completeApply.lawfulConfig := by
  unfold State.completeApply
  refine lawfulConfig_of_keepsConfig (keepsConfig_retake (endOperation_keepsConfig _ _ _ _ _)) ?_
  refine ⟨⟨?_, ?_⟩, ?_, ?_, ?_, ?_, fun hr => absurd hr ?_⟩
  · simpa using hs.windows.2
  · simpa using hs.windows.2
  · simpa using hs.active
  · simpa using hs.ready
  · simpa using hs.format
  · simpa using hs.held
  · simpa [State.inReset] using hreset

theorem completeFormat_lawfulConfig {s : State} (hs : s.lawfulConfig) (hreset : s.inReset = false)
    (hop : s.jc.op = .format) : s.completeFormat.lawfulConfig := by
  unfold State.completeFormat
  refine lawfulConfig_of_keepsConfig (keepsConfig_retake (endOperation_keepsConfig _ _ _ _ _)) ?_
  refine ⟨⟨?_, ?_⟩, fun g hg => ?_, ?_, ?_, ?_, fun hr => absurd hr ?_⟩
  · simpa using hs.windows.2
  · simpa using hs.windows.2
  · cases hg
    simpa using hs.ready (hs.format hop)
  · simpa using hs.ready
  · simpa using hs.format
  · simpa using hs.held
  · simpa [State.inReset] using hreset

/-- Only FORMAT writes its two anchors (R98). -/
theorem format_of_secondAnchor {s : State} (h : s.stepWork) (hstep : s.jc.step = some .secondAnchor) :
    s.jc.op = .format := by
  unfold State.stepWork at h
  rw [hstep] at h
  obtain ⟨-, -, -, -, -, -, -, ho⟩ := h
  exact ho

theorem anchorDone_lawfulConfig {s : State} (hs : s.lawfulConfig) (hreset : s.inReset = false)
    (hop : s.jc.step = some .secondAnchor → s.jc.op = .format) : s.anchorDone.lawfulConfig := by
  unfold State.anchorDone
  repeat' split
  · exact lawfulConfig_of_keepsConfig (startScrub_keepsConfig s) hs
  · exact lawfulConfig_of_keepsConfig (completeAdvance_keepsConfig s _) hs
  · exact lawfulConfig_of_keepsConfig (completeAdvance_keepsConfig s _) hs
  · exact completeApply_lawfulConfig hs hreset
  · exact lawfulConfig_of_keepsConfig (writeAnchor_keepsConfig s _ _ _ _ _) hs
  · exact completeFormat_lawfulConfig hs hreset (hop (by assumption))
  all_goals exact hs

/-- During a reset there is no geometry (R42, R119). -/
theorem geom_of_reset {s : State} (hc : s.copiesSound) (hreset : s.inReset = true) : s.jc.geom = none :=
  hc.2.1.trans (hc.2.2.2.2 hreset).1

theorem Event_lawfulConfig {s t : State} {c : Instr} (h : s.Event c t) (hs : s.lawfulConfig) (hw : s.workSound)
    (hc : s.copiesSound) : t.lawfulConfig := by
  obtain ⟨hstep, hop, -⟩ := id hw
  have keep {u : State} (hu : s.keepsConfig u) : (u.settle s.arb).lawfulConfig :=
    lawfulConfig_settle (lawfulConfig_of_keepsConfig hu hs)
  have released {u : State} (hu : s.release.keepsConfig u) : (u.settle s.arb).lawfulConfig :=
    keep (keepsConfig_trans (u := s.release) (keepsConfig_of_eq rfl rfl rfl rfl rfl rfl rfl rfl rfl) rfl hu)
  have stored {op : MemOp} {u : State} (hu : (s.release.storeCells op).keepsConfig u) : (u.settle s.arb).lawfulConfig :=
    keep (keepsConfig_trans (u := s.release.storeCells op) (keepsConfig_of_eq rfl rfl rfl rfl rfl rfl rfl rfl rfl) rfl hu)
  have accepted {v u : State} (hu : v.keepsConfig u) (hv : v.lawfulConfig) (k : Option Frame) :
      ((u.finishRetake.setFrame k).settle s.arb).lawfulConfig :=
    lawfulConfig_settle (lawfulConfig_of_keepsConfig (keepsConfig_setFrame (keepsConfig_finishRetake hu) k) hv)
  have accept st op (ho : op ≠ .format) : (s.accept st op).lawfulConfig :=
    lawfulConfig_congr hs rfl rfl rfl (fun h => absurd h (by exact ho)) rfl rfl
  /- In a reset nothing but the memory size may change. -/
  have lasting {u : State} (hreset : s.inReset = true) (hstore : u.store = s.store) (hgeom : u.jc.geom = s.jc.geom)
      (hops : u.jc.op = s.jc.op) (hheld : u.anchors.heldA = s.anchors.heldA) : u.lawfulConfig := by
    obtain ⟨h1, h2⟩ := hs.reset hreset
    refine ⟨?_, ?_, ?_, ?_, ?_, fun _ => ?_⟩
    · unfold State.eightWindows; rw [hstore]; exact hs.windows
    · rw [hgeom, geom_of_reset hc hreset]; nofun
    · rw [hstore, h1]; nofun
    · rw [hops, hstore]; exact hs.format
    · rw [hheld, h2]; nofun
    · rw [hstore, hheld]; exact ⟨h1, h2⟩
  cases h with
  | idles => exact hs
  | follows _ x hreset => exact lasting hreset rfl rfl rfl rfl
  | samples m x hreset => exact lasting hreset rfl rfl rfl rfl
  | begins _ why cut x =>
    have := resetBlocks_lawfulConfig (s.tear cut) why
    exact ⟨this.windows, this.active, this.ready, this.format, this.held, fun _ => ⟨rfl, rfl⟩⟩
  | ends _ m x _ hreset =>
    obtain ⟨-, -, hst⟩ := handFree_of_reset hw hreset
    have hne : s.jc.op ≠ .format := by
      unfold State.operationSound at hop
      simp [hop, hst, JournalState.longOp]
    obtain ⟨h1, h2⟩ := hs.reset hreset
    refine ⟨?_, ?_, ?_, ?_, ?_, fun _ => ?_⟩
    · simpa [State.eightWindows] using hs.windows
    · simp [State.endReset, geom_of_reset hc hreset]
    · simp [h1]
    · simp [State.endReset]
    · simp [State.endReset, h2]
    · simp [State.endReset, h1, h2]
  | softResets cut =>
    refine ⟨?_, ?_, ?_, ?_, ?_, fun _ => ?_⟩
    · simp [State.eightWindows, State.beginReset, State.resetBlocks, Setup.reset]
    all_goals simp [State.endReset, State.beginReset, State.resetBlocks]
  | frames => exact lawfulConfig_congr hs rfl rfl rfl id rfl rfl
  | stages f item k _ hlocked =>
    refine lawfulConfig_settle ?_
    obtain ⟨h1, h2, h3⟩ := stage_windows s.store item
    refine ⟨⟨?_, ?_⟩, hs.active, fun hr => absurd (h3.symm.trans hr) nofun,
      fun ho => absurd ho (not_format_of_unlocked hop hlocked), hs.held, fun hr => ⟨h3, (hs.reset hr).2⟩⟩
    · rw [State.setFrame_store, State.setStore_store, h2]
      exact hs.windows.1
    · rw [State.setFrame_store, State.setStore_store, h1]
      exact hs.windows.2
  | validates f x k hreset hlocked hready =>
    refine lawfulConfig_settle ?_
    exact ⟨hs.windows, hs.active, fun hr => lawful_of_validateImage (hready hr),
      fun ho => absurd ho (not_format_of_unlocked hop hlocked), hs.held, fun hr => absurd (hreset.symm.trans hr) nofun⟩
  | commits _ k => exact accepted (startDrain_keepsConfig (s.accept .committing .commit) _) (accept _ _ nofun) k
  | commitsDamaged _ k => exact accepted (startAdvance_keepsConfig (s.accept .committing .commit)) (accept _ _ nofun) k
  | aborts _ k => exact accepted (startDrain_keepsConfig (s.accept .aborting .abort) _) (accept _ _ nofun) k
  | abortsDamaged _ k => exact accepted (startScan_keepsConfig (s.accept .aborting .abort) _) (accept _ _ nofun) k
  | formats _ k _ _ _ _ hready =>
    refine accepted (startDrain_keepsConfig (s.accept .formatting .format) _) ?_ k
    exact ⟨hs.windows, hs.active, hs.ready, fun _ => hready, hs.held, hs.reset⟩
  | applies _ k => exact accepted (startDrain_keepsConfig (s.accept .applying .apply) _) (accept _ _ nofun) k
  | readCompletes p merr op =>
    refine keep (keepsConfig_trans ?_ (by simp) (portResponded_keepsConfig _ p))
    exact keepsConfig_of_eq (by simp) (by simp) (by simp) (by simp) (by simp) (by simp) (by simp) (by simp) (by simp)
  | writeCompletes p op =>
    refine keep (keepsConfig_trans ?_ (by simp) (portResponded_keepsConfig _ p))
    exact keepsConfig_of_eq (by simp) (by simp) (by simp) (by simp) (by simp) (by simp) (by simp) (by simp) (by simp)
  | lineRead merr op e => exact released (lineReadDone_keepsConfig s.release e op merr)
  | reserves e image => exact keep (reserve_keepsConfig s e image)
  | recordWritten op e n =>
    exact keep (keepsConfig_trans (u := (s.release.storeCells op).setPhase e (.inserting n))
      (keepsConfig_of_eq rfl rfl rfl rfl rfl rfl rfl rfl rfl) rfl (countRecord_keepsConfig _))
  | copyRead merr op k first m hreset _ _ hunit =>
    have hread : s.anchors.reading = true := by simp [Anchors.reading, hunit]
    obtain ⟨-, -, -, -, -, ho⟩ := anchorSearch_of_reading hstep hread
    refine lawfulConfig_settle (copyRead_lawfulConfig (s := s.release) (lawfulConfig_congr hs rfl rfl rfl id rfl rfl) hreset
      ?_ k fun x hx => readAnchor_legal hx)
    simp [ho]
  | copyWritten op k seq hreset =>
    refine lawfulConfig_settle (anchorDone_lawfulConfig (lawfulConfig_congr hs rfl rfl rfl id rfl rfl) hreset ?_)
    exact format_of_secondAnchor (s := s) hstep
  | scrubs op n => exact stored (scrubbed_keepsConfig (s.release.storeCells op) n)
  | scans merr op sc => exact released (scanSlot_keepsConfig s.release _ _ _)
  | looksAhead merr op sc => exact released (endScan_keepsConfig s.release _ _ _ _ _)
  | rollsBack merr op rb => exact released (rollbackSlot_keepsConfig s.release rb _ _)
  | restores op rb => exact stored (rollTo_keepsConfig (s.release.storeCells op) _)
  | presents | responds =>
    exact lawfulConfig_congr hs (by simp) (by simp) (by simp) (by simp) (by simp) (by simp [State.inReset])
  | _ =>
    refine lawfulConfig_settle (lawfulConfig_congr hs ?_ ?_ ?_ ?_ ?_ ?_)
    all_goals simp [State.inReset]

end Sys2Proof.Machine
end

section
/-! PROOFS. O58, the part without a geometry: it is before its selection, UNFORMATTED, or in its FORMAT (R5, R18, R42). -/
namespace Sys2Proof.Machine

open Sys2Proof

/-- Without a geometry the configuration is the reset configuration, and the part is recovering from before the
selection, UNFORMATTED, or in its FORMAT (R5, R18, R42). -/
def State.bareSound (s : State) : Prop :=
  s.jc.geom = none → s.store.active = Setup.reset
    ∧ (s.jc.state = .unformatted ∨ s.jc.state = .formatting
      ∨ (s.jc.state = .recovering ∧ (s.jc.step = none ∨ s.jc.step = some .anchorSearch)))

theorem geometrySound_iff {s : State} : s.geometrySound ↔ s.lawfulConfig ∧ s.bareSound :=
  ⟨fun h => ⟨lawfulConfig_of_geometrySound h, h.2.2.2.2.2.2⟩,
    fun ⟨h, hb⟩ => ⟨h.windows, h.active, h.ready, h.format, h.held, h.reset, hb⟩⟩

theorem bareSound_congr {s t : State} (h : s.bareSound) (hgeom : t.jc.geom = s.jc.geom)
    (hactive : t.store.active = s.store.active) (hstate : t.jc.state = s.jc.state) (hstep : t.jc.step = s.jc.step) :
    t.bareSound := by
  unfold State.bareSound at *
  rwa [hgeom, hactive, hstate, hstep]

theorem bareSound_of_geom {s : State} (h : s.jc.geom ≠ none) : s.bareSound := fun e => absurd e h

/-- Work of a FORMAT on the part. -/
theorem bareSound_of_formatting {s t : State} (h : s.bareSound) (hgeom : t.jc.geom = s.jc.geom)
    (hactive : t.store.active = s.store.active) (hstate : t.jc.state = .formatting) : t.bareSound :=
  fun e => ⟨hactive.trans (h (hgeom ▸ e)).1, .inr (.inl hstate)⟩

/-- Past the selection, an operation other than FORMAT has a geometry (R18). -/
theorem geom_of_work {s : State} (h : s.bareSound) (hop : s.operationSound) (ho : s.jc.op ≠ .none)
    (hf : s.jc.op ≠ .format) (hstep : s.jc.step ≠ none ∧ s.jc.step ≠ some .anchorSearch) : s.jc.geom ≠ none := by
  intro e
  unfold State.operationSound at hop
  obtain ⟨-, hst | hst | ⟨-, hx⟩⟩ := h e
  · exact ho (by rw [hop, hst]; rfl)
  · exact hf (by rw [hop, hst]; rfl)
  · exact hx.elim hstep.1 hstep.2

theorem format_iff {s : State} (hop : s.operationSound) : s.jc.op = .format ↔ s.jc.state = .formatting := by
  unfold State.operationSound at hop
  rw [hop]
  cases s.jc.state <;> simp [JournalState.longOp]

/-- Work that leaves the configuration alone, at an operation other than FORMAT past the selection. -/
theorem bareSound_of_work {s t : State} (h : s.keepsConfig t) (hg : s.jc.geom ≠ none) : t.bareSound :=
  bareSound_of_geom (h.geom ▸ hg)

theorem drainDone_bareSound {s : State} (h : s.bareSound) (hop : s.operationSound) (ho : s.jc.op ≠ .none)
    (hstep : s.jc.step = some .draining) : s.drainDone.bareSound := by
  by_cases hf : s.jc.op = .format
  · rw [drainDone_format hf]
    exact bareSound_of_formatting h rfl rfl ((format_iff hop).mp hf)
  · exact bareSound_of_work (drainDone_keepsConfig s) (geom_of_work h hop ho hf (by simp [hstep]))

theorem portResponded_bareSound {s : State} (h : s.bareSound) (hop : s.operationSound)
    (hdrain : ∀ p ∈ s.jc.drain, s.jc.step = some .draining ∧ s.jc.op ≠ .none) (p : Port) :
    (s.portResponded p).bareSound := by
  unfold State.portResponded
  dsimp only
  split
  · rename_i hp
    obtain ⟨hstep, ho⟩ := hdrain p hp
    split
    · exact drainDone_bareSound (bareSound_congr h rfl rfl rfl rfl) (by exact hop) ho hstep
    · exact bareSound_congr h rfl rfl rfl rfl
  · exact h

theorem refuseEntry_bareSound {s : State} (h : s.bareSound) (hop : s.operationSound)
    (hdrain : ∀ p ∈ s.jc.drain, s.jc.step = some .draining ∧ s.jc.op ≠ .none) (e : Entry) (why : Reason) :
    (s.refuseEntry e why).bareSound := by
  unfold State.refuseEntry
  dsimp only
  split
  · refine portResponded_bareSound (bareSound_congr h (by simp) (by simp) (by simp) (by simp)) ?_ (by simpa using hdrain) _
    simpa [State.operationSound] using hop
  · exact bareSound_congr h rfl rfl rfl rfl

/-- The selection leaves the reset configuration only where it takes an anchor's (R90, R123). -/
theorem selectAnchor_bareSound {s : State} (h : s.bareSound) (a b : Option Anchor) : (s.selectAnchor a b).bareSound := by
  have chosen {k x t} (ht : (s.chosen k x).keepsConfig t) : t.bareSound := bareSound_of_work ht nofun
  obtain ⟨-, e⟩ | ⟨k, x, -, -, ⟨-, e⟩ | ⟨-, e⟩⟩ := selectAnchor_cases s a b <;> rw [e]
  · exact fun hg => ⟨(restage_active _).trans (h hg).1, .inl rfl⟩
  · exact chosen (startScrub_keepsConfig _)
  · exact chosen (startScan_keepsConfig _ _)

theorem copyRead_bareSound {s : State} (h : s.bareSound) (k : Copy) (a : Option Anchor) : (s.copyRead k a).bareSound := by
  cases k
  · exact bareSound_congr h rfl rfl rfl rfl
  · exact selectAnchor_bareSound (s := s.setAnchors { s.anchors with validB := validity a }) h _ _

/-- An operation's anchor is written with a geometry, but for FORMAT's, which brings one (R93, R145). -/
theorem anchorDone_bareSound {s : State} (h : s.bareSound) (hop : s.operationSound)
    (hstep : s.jc.step = some .advancing ∨ s.jc.step = some .wrapAnchor → s.jc.op = .commit ∨ s.jc.op = .abort ∨ s.jc.op = .recovery)
    (hformat : s.jc.step = some .firstAnchor → s.jc.op = .format)
    (happly : s.jc.step = some .applyAnchor → s.jc.op = .apply) : s.anchorDone.bareSound := by
  have advancing (hx : s.jc.step = some .advancing ∨ s.jc.step = some .wrapAnchor) : s.jc.geom ≠ none := by
    refine geom_of_work h hop ?_ ?_ ?_
    · obtain ho | ho | ho := hstep hx <;> simp [ho]
    · obtain ho | ho | ho := hstep hx <;> simp [ho]
    · obtain e | e := hx <;> simp [e]
  unfold State.anchorDone
  split
  · rename_i hx
    split
    · exact bareSound_of_work (startScrub_keepsConfig s) (advancing (.inl hx))
    · exact bareSound_of_work (completeAdvance_keepsConfig s _) (advancing (.inl hx))
  · rename_i hx
    exact bareSound_of_work (completeAdvance_keepsConfig s _) (advancing (.inr hx))
  · rename_i hx
    have hg := geom_of_work h hop (by simp [happly hx]) (by simp [happly hx]) (by simp [hx])
    refine bareSound_of_geom ?_
    unfold State.completeApply
    simpa [State.endOperation] using hg
  · rename_i hx
    exact bareSound_of_formatting h rfl rfl ((format_iff hop).mp (hformat hx))
  · refine bareSound_of_geom ?_
    unfold State.completeFormat
    simp [State.endOperation]
  all_goals exact h

/-- FORMAT stays FORMATTING through its acceptance (R144). -/
theorem startDrain_of_format (s : State) (ports : List Port) :
    ((s.accept .formatting .format).startDrain ports).jc.state = .formatting := by
  unfold State.startDrain
  dsimp only
  split <;> rfl

theorem Event_bareSound {s t : State} {c : Instr} (he : s.Event c t) (h : s.bareSound) (hw : s.workSound)
    (hc : s.copiesSound) : t.bareSound := by
  obtain ⟨hstep, hop, hnone, hone⟩ := id hw
  have hdrain : ∀ p ∈ s.jc.drain, s.jc.step = some .draining ∧ s.jc.op ≠ .none :=
    fun p hp => ⟨draining_of_mem hstep hp, op_of_drain hstep hp⟩
  have settled {u : State} (hu : u.bareSound) : (u.settle s.arb).bareSound :=
    bareSound_congr hu (by simp) (by simp) (by simp) (by simp)
  have same {u : State} (hjc : u.jc = s.jc) (hactive : u.store.active = s.store.active) : u.bareSound :=
    bareSound_congr h (by rw [hjc]) hactive (by rw [hjc]) (by rw [hjc])
  have formatted {u : State} (hu : u.bareSound) (k : Option Frame) :
      ((u.finishRetake.setFrame k).settle s.arb).bareSound :=
    settled (bareSound_congr hu (by simp) (by simp) (by simp) (by simp))
  /- Past the selection, every operation but FORMAT has a geometry. -/
  have past {op : MemOp} (hcur : s.arb.current = some (.journal, op)) (hf : s.jc.op ≠ .format)
      (hs : s.jc.step ≠ none ∧ s.jc.step ≠ some .anchorSearch) : s.jc.geom ≠ none :=
    geom_of_work h hop (op_of_current hstep hone hcur) hf hs
  /- ACTIVE and DAMAGED have a geometry. -/
  have accepted {st : JournalState} {op : LongOp} {u : State} (hst : s.jc.state = .active ∨ s.jc.state = .damaged)
      (hu : (s.accept st op).keepsConfig u) (k : Option Frame) :
      ((u.finishRetake.setFrame k).settle s.arb).bareSound := by
    refine formatted (bareSound_of_work hu fun e => ?_) k
    obtain ⟨-, hx⟩ := h e
    obtain e | e := hst <;> simp [e] at hx
  cases he with
  | idles => exact h
  | follows => exact same rfl rfl
  | samples => exact same rfl rfl
  | begins => exact fun _ => ⟨rfl, .inr (.inr ⟨rfl, .inl rfl⟩)⟩
  | ends _ m x _ hreset =>
    intro _
    obtain ⟨-, ha⟩ := hc.2.2.2.2 hreset
    exact ⟨by simpa using ha, .inr (.inr ⟨by simp [State.endReset], .inr (by simp [State.endReset])⟩)⟩
  | softResets =>
    exact fun _ => ⟨by simp [State.beginReset, State.resetBlocks],
      .inr (.inr ⟨by simp [State.endReset], .inr (by simp [State.endReset])⟩)⟩
  | frames => exact same rfl rfl
  | stages f item => exact settled (bareSound_congr h rfl (stage_windows s.store item).2.1 rfl rfl)
  | validates => exact settled (bareSound_congr h rfl rfl rfl rfl)
  | commits _ k _ _ _ hst => exact accepted (.inl hst) (startDrain_keepsConfig (s.accept .committing .commit) _) k
  | commitsDamaged _ k _ _ _ hst => exact accepted (.inr hst) (startAdvance_keepsConfig (s.accept .committing .commit)) k
  | aborts _ k _ _ _ hst => exact accepted (.inl hst) (startDrain_keepsConfig (s.accept .aborting .abort) _) k
  | abortsDamaged _ k _ _ _ hst => exact accepted (.inr hst) (startScan_keepsConfig (s.accept .aborting .abort) _) k
  | applies _ k _ _ _ hst => exact accepted (.inl hst) (startDrain_keepsConfig (s.accept .applying .apply) _) k
  | formats _ k =>
    exact formatted (bareSound_of_formatting h (startDrain_keepsConfig (s.accept .formatting .format) _).geom
      (keepsConfig_active (startDrain_keepsConfig (s.accept .formatting .format) _)).2 (startDrain_of_format s _)) k
  | readCompletes p merr op =>
    refine settled (portResponded_bareSound (same (by simp) (by simp)) ?_ (by simpa using hdrain) p)
    simpa [State.operationSound] using hop
  | writeCompletes p op =>
    refine settled (portResponded_bareSound (same (by simp) (by simp)) ?_ (by simpa using hdrain) p)
    simpa [State.operationSound] using hop
  | lineRead merr op e =>
    refine settled ?_
    unfold State.lineReadDone
    split
    · exact refuseEntry_bareSound (s := s.release) h hop hdrain e _
    · exact same rfl rfl
  | reserves e image =>
    refine settled ?_
    unfold State.reserve
    split
    · exact same rfl rfl
    · exact refuseEntry_bareSound h hop hdrain e _
  | recordWritten op e n =>
    refine settled (bareSound_congr h ?_ (by simp) ?_ ?_)
    all_goals
      unfold State.countRecord
      dsimp only
      split <;> simp
  | copyRead merr op k => exact settled (copyRead_bareSound (s := s.release) h k _)
  | copyWritten op k seq _ _ _ hunit =>
    have hread : s.anchors.reading = false := by simp [Anchors.reading, hunit]
    obtain ⟨-, -, -, -, hs⟩ := writing_of_unit hstep (by simp [hunit]) hread
    refine settled (anchorDone_bareSound (bareSound_congr h rfl rfl rfl rfl) hop (fun e => ?_) (fun e => ?_) fun e => ?_)
    · change s.jc.step = _ ∨ s.jc.step = _ at e
      obtain e | e := e <;> simpa [e] using hs
    · change s.jc.step = _ at e
      simp [e] at hs
      exact hs.2
    · change s.jc.step = _ at e
      simp [e] at hs
      exact hs.2
  | scrubs op n _ hcur _ hn =>
    obtain ⟨hs, -⟩ := scrubbing_of_scrub hstep (by simp [hn])
    by_cases hf : s.jc.op = .format
    · refine settled (bareSound_of_formatting h ?_ (by simp) ?_)
      · exact (scrubbed_keepsConfig (s.release.storeCells op) n).geom
      · unfold State.scrubbed
        dsimp only
        repeat' split
        all_goals exact (format_iff hop).mp hf
    · refine settled (bareSound_of_work (scrubbed_keepsConfig (s.release.storeCells op) n) ?_)
      exact past hcur hf (by simp [hs])
  | scans merr op sc _ hcur _ hsc =>
    obtain ⟨hs, -⟩ := scansFor_of_scan hstep (by simp [hsc])
    refine settled (bareSound_of_work (scanSlot_keepsConfig s.release _ _ _) ?_)
    refine past hcur ?_ ?_ <;> obtain ⟨e, ho⟩ | ⟨e, ho⟩ := hs <;> simp [e, ho]
  | looksAhead merr op sc _ hcur _ hsc =>
    obtain ⟨hs, -⟩ := scansFor_of_scan hstep (by simp [hsc])
    refine settled (bareSound_of_work (endScan_keepsConfig s.release _ _ _ _ _) ?_)
    refine past hcur ?_ ?_ <;> obtain ⟨e, ho⟩ | ⟨e, ho⟩ := hs <;> simp [e, ho]
  | rollsBack merr op rb _ hcur hpurpose =>
    obtain ⟨hs, -, -, -, -, ho, -⟩ := rollingBack_of_current hstep hone hcur (.inl hpurpose)
    refine settled (bareSound_of_work (rollbackSlot_keepsConfig s.release rb _ _) ?_)
    refine past hcur ?_ (by simp [hs])
    obtain ho | ho := ho <;> simp [ho]
  | restores op rb _ hcur hpurpose =>
    obtain ⟨hs, -, -, -, -, ho, -⟩ := rollingBack_of_current hstep hone hcur (.inr hpurpose)
    refine settled (bareSound_of_work (rollTo_keepsConfig (s.release.storeCells op) _) ?_)
    refine past hcur ?_ (by simp [hs])
    obtain ho | ho := ho <;> simp [ho]
  | presents | responds => exact same (by simp) (by simp)
  | _ =>
    refine settled (same ?_ ?_)
    all_goals simp

end Sys2Proof.Machine
end

section
/-! PROOFS. O58, the host writes past their decision: each lies where its decision found it, and none reaches the
reserved area (R39, R60, R63, R82, R172). -/
namespace Sys2Proof.Machine

open Sys2Proof

/-- A host write lies in the 32-byte block of its address, in range, and its line resolves to the policy it holds (R40,
R63). -/
def State.inPlace (s : State) (x : Txn) : Prop :=
  x.addr / 4 % 8 + x.len ≤ 8 ∧ x.addr < s.memSize.lines * 64
    ∧ ∃ pol w, x.resolution = some (.covered pol w) ∧ s.decoder.resolve (x.addr / 64) = .covered pol w

/-- The path is OPEN, or a drain waits for the port (R57, R82). -/
def State.admits (s : State) (p : Port) : Prop :=
  s.jc.state = .unformatted ∨ s.jc.state = .active ∨ (s.jc.step = some .draining ∧ p ∈ s.jc.drain)

/-- The rule of one port's write past its decision. -/
def State.writeSound (s : State) (p : Port) : Prop :=
  ∀ x, (s.port p).txn = some x →
    x.whole ∧ (x.kind = .write → s.underWay p → s.inReset = false ∧ s.admits p ∧ s.inPlace x)

theorem writesSound_iff {s : State} : s.writesSound ↔ ∀ p, s.writeSound p := by
  constructor
  · rintro ⟨h1, h2⟩ p x hx
    refine ⟨h1 p x hx, fun hk hu => ?_⟩
    obtain ⟨ha, hb, hc⟩ := h2 p x ⟨hx, hk, hu⟩
    exact ⟨ha, hb, hc⟩
  · intro h
    refine ⟨fun p x hx => (h p x hx).1, fun p x ⟨hx, hk, hu⟩ => ?_⟩
    obtain ⟨ha, hb, hc⟩ := (h p x hx).2 hk hu
    exact ⟨ha, hb, hc⟩

theorem inPlace_congr {s t : State} {x : Txn} (h : s.inPlace x) (hmem : t.memSize = s.memSize)
    (hdec : t.decoder = s.decoder) : t.inPlace x := by
  unfold State.inPlace at *
  rwa [hmem, hdec]

theorem writeSound_congr {s t : State} {p : Port} (h : s.writeSound p) (hport : t.port p = s.port p)
    (hreset : t.inReset = s.inReset) (hadmits : s.admits p → t.admits p) (hmem : t.memSize = s.memSize)
    (hdec : t.decoder = s.decoder) : t.writeSound p := by
  intro x hx
  rw [hport] at hx
  obtain ⟨hw, hf⟩ := h x hx
  refine ⟨hw, fun hk hu => ?_⟩
  obtain ⟨h1, h2, h3⟩ := hf hk (underWay_congr hu hport.symm)
  exact ⟨hreset.trans h1, hadmits h2, inPlace_congr h3 hmem hdec⟩

/-- A port at rest keeps the form of its record alone. -/
theorem writeSound_of_rest {s : State} {p : Port} (hp : ¬ s.underWay p) (h : ∀ x, (s.port p).txn = some x → x.whole) :
    s.writeSound p := fun x hx => ⟨h x hx, fun _ hu => absurd hu hp⟩

/-- No host write is past its decision. -/
def State.landed (s : State) : Prop := ∀ p x, (s.port p).txn = some x → x.whole ∧ (x.kind = .write → ¬ s.underWay p)

theorem writeSound_of_landed {s : State} (h : s.landed) (p : Port) : s.writeSound p :=
  fun x hx => ⟨(h p x hx).1, fun hk hu => absurd hu ((h p x hx).2 hk)⟩

theorem landed_congr {s t : State} (h : s.landed) (ha : t.portA = s.portA) (hb : t.portB = s.portB) : t.landed := by
  intro p x hx
  rw [port_congr ha hb] at hx
  exact ⟨(h p x hx).1, fun hk hu => (h p x hx).2 hk (underWay_congr hu (port_congr ha hb p).symm)⟩

/-- During an operation past its drain no host write is past its decision (R57, R82). -/
theorem landed_of_busy {s : State} (h : ∀ p, s.writeSound p) (hbusy : ∀ p, ¬ s.admits p) : s.landed :=
  fun p x hx => ⟨(h p x hx).1, fun hk hu => hbusy p ((h p x hx).2 hk hu).2.1⟩

theorem landed_of_reset {s : State} (h : ∀ p, s.writeSound p) (hreset : s.inReset = true) : s.landed :=
  fun p x hx => ⟨(h p x hx).1, fun hk hu => absurd (hreset.symm.trans ((h p x hx).2 hk hu).1) nofun⟩

/-- A long operation admits none but the writes it drains (R6, R82). -/
theorem admits_of_busy {s : State} (hop : s.operationSound) (ho : s.jc.op ≠ .none) {p : Port} (h : s.admits p) :
    s.jc.step = some .draining ∧ p ∈ s.jc.drain := by
  unfold State.operationSound at hop
  obtain e | e | e := h
  · exact absurd (by rw [hop, e]; rfl) ho
  · exact absurd (by rw [hop, e]; rfl) ho
  · exact e

/-! ## Decisions -/

/-- A write that its decision takes has passed the checks, against the decoder's own resolution (R63, R64). -/
theorem taken_of_judge {s : State} {x : Txn} {r : Resolution} (h : s.judge x = .write r ∨ ∃ n, s.judge x = .queue r n) :
    (s.jc.state = .unformatted ∨ s.jc.state = .active) ∧ s.inPlace { x with resolution := some r } := by
  have opened {pol w} (h : s.judgeCovered x pol w = .write r ∨ ∃ n, s.judgeCovered x pol w = .queue r n) :
      s.pathMode ≠ .readOnly ∧ s.pathMode ≠ .writeHold ∧ r = .covered pol w := by
    unfold State.judgeCovered at h
    split_ifs at h with _ hro _ hhold
    · simp at h
    · simp at h
    · simp at h
    · simp at h
    · refine ⟨hro, fun e => hhold (.inl e), ?_⟩
      unfold State.judgeOpen at h
      split_ifs at h <;> simp_all
  unfold State.judge at h
  split_ifs at h with hform hrange hpath
  · simp at h
  · simp at h
  · simp at h
  · simp at h
  · split at h
    · simp at h
    · rename_i pol w hres
      obtain ⟨h1, h2, rfl⟩ := opened h
      refine ⟨?_, ?_, ?_, pol, w, rfl, hres⟩
      · unfold State.pathMode at hpath h1 h2
        cases hst : s.jc.state <;> simp_all [JournalState.pathMode]
      · simp only [Txn.malformed, Bool.or_eq_true, decide_eq_true_eq, not_or, not_lt] at hform
        exact hform.2
      · simpa [MemSize.bytes] using hrange

theorem takeDecision_writeSound {s : State} {p : Port} (hreset : s.inReset = false)
    (hwhole : ∀ x, (s.port p).txn = some x → x.whole) (hp : ¬ s.underWay p) : (s.takeDecision p).writeSound p := by
  unfold State.takeDecision
  split
  · rename_i x hx
    have hw := hwhole x hx
    have taken {r : Resolution} (hj : s.judge x = .write r ∨ ∃ n, s.judge x = .queue r n) {t : State}
        (htxn : (t.port p).txn = some { x with resolution := some r }) (hpins : t.inReset = s.inReset)
        (hjc : t.jc = s.jc) (hmem : t.memSize = s.memSize) (hdec : t.decoder = s.decoder) : t.writeSound p := by
      obtain ⟨hst, hplace⟩ := taken_of_judge hj
      intro y hy
      rw [htxn] at hy
      cases hy
      refine ⟨hw, fun _ _ => ⟨hpins.trans hreset, ?_, inPlace_congr hplace hmem hdec⟩⟩
      unfold State.admits
      rw [hjc]
      exact hst.imp_right .inl
    cases hj : s.judge x with
    | refuse why =>
      refine writeSound_of_rest ?_ fun y hy => ?_
      · simp [State.underWay, State.enact, refuse_stage]
      · have : ((s.refuse p x why).port p).txn = some (x.refused why) := by
          cases p <;> simp [State.refuse, State.port, State.setPort]
        cases this.symm.trans hy
        exact hw
    | read =>
      intro y hy
      have hx' : ((s.enact p x .read).port p).txn = some x := by
        cases p <;> simpa [State.enact, State.port, State.setPort] using hx
      cases hx'.symm.trans hy
      refine ⟨hw, fun hk => absurd (kind_of_judge.1 hj) ?_⟩
      simp [hk]
    | hold =>
      refine writeSound_of_rest ?_ fun y hy => ?_
      · simp [State.underWay, State.enact]
      · simp only [State.enact, port_setPort, if_true, Option.some.injEq] at hy
        subst hy
        exact hw
    | finish r =>
      refine writeSound_of_rest ?_ fun y hy => ?_
      · simp [State.underWay, State.enact]
      · simp only [State.enact, port_setPort, if_true, Option.some.injEq] at hy
        subst hy
        exact hw
    | write r =>
      refine taken (.inl hj) ?_ ?_ ?_ ?_ ?_
      · cases p <;> simp [State.enact, State.port, State.setPort]
      all_goals simp [State.inReset]
    | queue r n =>
      refine taken (.inr ⟨n, hj⟩) ?_ ?_ ?_ ?_ ?_
      · cases p <;> simp [State.enact, State.port, State.setPort]
      all_goals simp [State.inReset]
  · rename_i hnone
    exact writeSound_of_rest hp hwhole

theorem admits_congr {s t : State} (hjc : t.jc = s.jc) {p : Port} (h : s.admits p) : t.admits p := by
  unfold State.admits at *
  rwa [hjc]

theorem Decides_writeSound {s t : State} (hd : s.Decides t) (hreset : s.inReset = false) (h : ∀ p, s.writeSound p)
    (p : Port) : t.writeSound p := by
  induction hd generalizing p with
  | none => exact h p
  | asks _ ih => exact writeSound_congr (ih p) rfl rfl id rfl rfl
  | decides hd' q hq ih =>
    have hreset' := (congrArg (fun x : Pins => x.supplyLow || x.resetLow) (Decides_untouched hd').1).trans hreset
    by_cases e : p = q
    · subst e
      exact takeDecision_writeSound hreset' (fun x hx => (ih p x hx).1) (rest_of_stage hq)
    · exact writeSound_congr (ih p) (takeDecision_port e) (by simp [State.inReset]) (admits_congr (by simp)) (by simp)
        (by simp)
  | stands _ q hq ih =>
    by_cases e : p = q
    · subst e
      refine writeSound_of_rest (by simp [State.underWay, State.deciding]) fun x hx => (ih p x ?_).1
      simpa [State.deciding] using hx
    · exact writeSound_congr (ih p) (deciding_port e) (by simp [State.inReset]) (admits_congr (by simp)) (by simp)
        (by simp)

/-! ## The Journal Controller's work -/

/-- With no host write past its decision, the work may change the decoder, and then held writes decide (R57, R82). -/
theorem works_writeSound {s t : State} (hw : s.works t) (hreset : t.inReset = false) (h : s.landed) (p : Port) :
    t.writeSound p := by
  obtain ⟨u, hu, hd⟩ := hw
  have hreset' : u.inReset = false := by
    simpa [State.inReset, (Decides_untouched hd).1] using hreset
  exact Decides_writeSound hd hreset' (writeSound_of_landed (landed_congr h hu.portA hu.portB)) p

/-- A port whose transaction is over leaves the drain; with the last one the drain admits none (R82). -/
theorem portResponded_writeSound {s : State} (hop : s.operationSound) (hreset : s.inReset = false)
    (hdrain : ∀ p ∈ s.jc.drain, s.jc.op ≠ .none) (h : ∀ q, s.writeSound q) {p : Port} (hp : ¬ s.underWay p) (q : Port) :
    (s.portResponded p).writeSound q := by
  unfold State.portResponded
  dsimp only
  split
  · rename_i hmem
    have kept {q : Port} {x : Txn} (hx : (s.port q).txn = some x) (hk : x.kind = .write) (hu : s.underWay q) :
        s.jc.step = some .draining ∧ q ∈ s.jc.drain.filter fun r => r ≠ p := by
      obtain ⟨hs, hq⟩ := admits_of_busy hop (hdrain p hmem) ((h q x hx).2 hk hu).2.1
      have hne : q ≠ p := by
        rintro rfl
        exact hp hu
      exact ⟨hs, List.mem_filter.mpr ⟨hq, by simpa using hne⟩⟩
    split
    · rename_i hrest
      refine works_writeSound (drainDone_works _) (by simpa [State.inReset] using hreset) (fun r x hx => ?_) q
      refine ⟨(h r x hx).1, fun hk hu => ?_⟩
      have := (kept hx hk hu).2
      rw [hrest] at this
      cases this
    · intro x hx
      obtain ⟨hw, hf⟩ := h q x hx
      refine ⟨hw, fun hk hu => ?_⟩
      obtain ⟨h1, -, h3⟩ := hf hk hu
      exact ⟨h1, .inr (.inr (kept hx hk hu)), h3⟩
  · exact h q

/-- The drain an acceptance sets waits for every write past its decision; with none it starts the work (R82). -/
theorem startDrain_writeSound {s : State} (hreset : s.inReset = false) (h : ∀ q, s.writeSound q) (st : JournalState)
    (op : LongOp) {ports : List Port} (hports : ports = s.toDrain ∨ s.landed) (q : Port) :
    ((s.accept st op).startDrain ports).writeSound q := by
  have hin {q : Port} (hu : s.underWay q) (e : ports = s.toDrain) : q ∈ ports := by
    rw [e]
    unfold State.toDrain
    rw [List.mem_filter]
    exact ⟨by cases q <;> simp, decide_eq_true hu⟩
  unfold State.startDrain
  dsimp only
  split
  · rename_i hnil
    refine works_writeSound (drainDone_works _) (by simpa [State.inReset] using hreset) ?_ q
    obtain e | hl := hports
    · intro r x hx
      refine ⟨(h r x hx).1, fun _ hu => ?_⟩
      have := hin hu e
      rw [hnil] at this
      cases this
    · exact landed_congr hl rfl rfl
  · obtain e | hl := hports
    · intro x hx
      obtain ⟨hw, hf⟩ := h q x hx
      refine ⟨hw, fun hk hu => ?_⟩
      obtain ⟨h1, -, h3⟩ := hf hk hu
      exact ⟨h1, .inr (.inr ⟨rfl, hin hu e⟩), h3⟩
    · refine writeSound_of_landed ?_ q
      exact landed_congr hl rfl rfl

/-! ## The events -/

/-- A port goes to a stage at rest with a record of the same form. -/
theorem writeSound_move {s t : State} {p : Port} (h : ∀ q, s.writeSound q) (hport : ∀ q, q ≠ p → t.port q = s.port q)
    (hp : ¬ t.underWay p) (hwhole : ∀ x, (t.port p).txn = some x → x.whole) (hreset : t.inReset = s.inReset)
    (hjc : t.jc = s.jc) (hmem : t.memSize = s.memSize) (hdec : t.decoder = s.decoder) (q : Port) : t.writeSound q := by
  by_cases hq : q = p
  · subst hq
    exact writeSound_of_rest hp hwhole
  · exact writeSound_congr (h q) (hport q hq) hreset (admits_congr hjc) hmem hdec

theorem presented_whole {q : Presentation} (h : wholePresentation q = true) : (presentedTxn q).whole := by
  unfold wholePresentation at h
  refine ⟨by simp [presentedTxn], fun hk => ?_⟩
  have hrd : q.rd = false := by
    by_contra e
    simp [presentedTxn, e] at hk
  rw [hrd] at h
  simp only [Bool.false_eq_true, if_false, Bool.and_eq_true, decide_eq_true_eq] at h
  simp [presentedTxn, hrd, h.1.2, h.2]

theorem refuse_txn (s : State) (p : Port) (x : Txn) (why : Reason) :
    ((s.refuse p x why).port p).txn = some (x.refused why) := by
  cases p <;> simp [State.refuse, State.port, State.setPort]

theorem refuse_writeSound {s : State} (h : ∀ q, s.writeSound q) {p : Port} {x : Txn} (hx : (s.port p).txn = some x)
    (why : Reason) (q : Port) : (s.refuse p x why).writeSound q := by
  refine writeSound_move (p := p) h (fun q hq => refuse_port hq _ _) (by simp [State.underWay, refuse_stage])
    (fun y hy => ?_) (by simp [State.inReset]) (by simp) (by simp) (by simp) q
  cases (refuse_txn s p x why).symm.trans hy
  exact (h p x hx).1

/-- A read completes in a port at rest (R65). -/
theorem hostReadDone_writeSound {s : State} (h : ∀ q, s.writeSound q) {p : Port} {x : Txn}
    (hx : (s.port p).txn = some x) (op : MemOp) (merr : Bool) :
    (∀ q, (s.hostReadDone p op merr).writeSound q) ∧ ¬ (s.hostReadDone p op merr).underWay p := by
  unfold State.hostReadDone
  rw [hx]
  dsimp only
  split
  · exact ⟨refuse_writeSound h hx _, by simp [State.underWay, refuse_stage]⟩
  · refine ⟨writeSound_move (p := p) h (fun q hq => (port_setPort s p q _).trans (if_neg (Ne.symm hq)))
      (by simp [State.underWay]) (fun y hy => ?_) (by simp [State.inReset]) (by simp) (by simp) (by simp),
      by simp [State.underWay]⟩
    simp only [port_setPort, if_true, Option.some.injEq] at hy
    subst hy
    exact (h p x hx).1

/-- A write completes in a port at rest (R68). -/
theorem hostWriteDone_writeSound {s : State} (h : ∀ q, s.writeSound q) {p : Port} {x : Txn}
    (hx : (s.port p).txn = some x) :
    (∀ q, (s.hostWriteDone p).writeSound q) ∧ ¬ (s.hostWriteDone p).underWay p := by
  have hport : (s.hostWriteDone p).port p = { s.port p with stage := .responding } := by
    cases p <;> simp_all [State.hostWriteDone, State.port, State.setPort]
  have hrest : ¬ (s.hostWriteDone p).underWay p := by simp [State.underWay, hport]
  refine ⟨writeSound_move (p := p) h (fun q hq => hostWriteDone_port hq) hrest (fun y hy => ?_) (by simp [State.inReset])
    (by simp) (by simp) (by simp), hrest⟩
  rw [hport] at hy
  cases hx.symm.trans hy
  exact (h p x hx).1

/-- The engine refuses its entry's write (R77, R78). -/
theorem refuseEntry_writeSound {s : State} (hop : s.operationSound) (hreset : s.inReset = false)
    (hdrain : ∀ p ∈ s.jc.drain, s.jc.op ≠ .none) (h : ∀ q, s.writeSound q) (e : Entry) (why : Reason) (q : Port) :
    (s.refuseEntry e why).writeSound q := by
  unfold State.refuseEntry
  dsimp only
  split
  · rename_i x hx
    refine portResponded_writeSound ?_ (by simpa [State.inReset] using hreset) (by simpa using hdrain)
      (refuse_writeSound (s := s.setEngine { s.engine with current := none }) h hx why) ?_ q
    · simpa [State.operationSound] using hop
    · simp [State.underWay, refuse_stage]
  · exact h q

/-- A write under way stays under way as the engine hands it back (R76, R79). -/
theorem handBack_writeSound {s : State} (h : ∀ q, s.writeSound q) {p : Port} (hp : s.underWay p) (q : Port) :
    (s.handBack p).writeSound q := by
  by_cases hq : q = p
  · subst hq
    intro x hx
    have hx' : (s.port q).txn = some x := by
      unfold State.handBack at hx
      split at hx
      · cases q <;> simpa [State.port, State.setPort] using hx
      · exact hx
    obtain ⟨hw, hf⟩ := h q x hx'
    refine ⟨hw, fun hk _ => ?_⟩
    obtain ⟨h1, h2, h3⟩ := hf hk hp
    exact ⟨by simpa [State.inReset] using h1, admits_congr (by simp) h2, inPlace_congr h3 (by simp) (by simp)⟩
  · exact writeSound_congr (h q) (handBack_port hq) (by simp [State.inReset]) (admits_congr (by simp)) (by simp) (by simp)

/-- The Journal Controller's own memory operations are those of an operation past its drain (R82, R98). -/
theorem busy_of_current {s : State} {op : MemOp} (hw : s.workSound) (hcur : s.arb.current = some (.journal, op)) (p : Port) :
    ¬ s.admits p := by
  obtain ⟨hstep, hop, -, hone⟩ := hw
  intro h
  obtain ⟨hs, -⟩ := admits_of_busy hop (op_of_current hstep hone hcur) h
  unfold State.stepWork at hstep
  rw [hs] at hstep
  have := outstanding_of_current hone hcur
  obtain ⟨-, -, -, -, -, hnone, -⟩ := hstep
  rw [hnone] at this
  cases this

/-- Every command outside a reset, and the start of one, keeps the writes where they are. -/
theorem Event_writeSound {s t : State} {c : Instr} (he : s.Event c t) (hw : s.workSound) (hserved : s.hostServed)
    (h : ∀ p, s.writeSound p) (p : Port) : t.writeSound p := by
  obtain ⟨hstep, hop, -, hone⟩ := id hw
  have hdrain : ∀ p ∈ s.jc.drain, s.jc.op ≠ .none := fun p hp => op_of_drain hstep hp
  have settled {u : State} (hu : u.writeSound p) : (u.settle s.arb).writeSound p :=
    writeSound_congr hu (port_congr (by simp) (by simp) p) (by simp [State.inReset]) (admits_congr (by simp)) (by simp)
      (by simp)
  have same {u : State} (ha : u.portA = s.portA) (hb : u.portB = s.portB) (hpins : u.inReset = s.inReset)
      (hjc : u.jc = s.jc) (hmem : u.memSize = s.memSize) (hdec : u.decoder = s.decoder) q : u.writeSound q :=
    writeSound_congr (h q) (port_congr ha hb q) hpins (admits_congr hjc) hmem hdec
  have idle {u : State} (ha : u.portA.txn = none) (hb : u.portB.txn = none) : u.writeSound p := by
    intro x hx
    cases p
    · exact absurd (ha.symm.trans hx) nofun
    · exact absurd (hb.symm.trans hx) nofun
  have finished {u : State} (hreset : u.inReset = false) (hu : ∀ q, u.writeSound q) (k : Option Frame) :
      ((u.finishRetake.setFrame k).settle s.arb).writeSound p :=
    settled (writeSound_congr (Decides_writeSound (Decides_finishRetake u) hreset hu p) rfl rfl id rfl rfl)
  have drained st op {ports : List Port} (hreset : s.inReset = false) (hports : ports = s.toDrain ∨ s.landed)
      (k : Option Frame) : ((((s.accept st op).startDrain ports).finishRetake.setFrame k).settle s.arb).writeSound p :=
    finished (by simpa [State.inReset] using hreset) (startDrain_writeSound hreset h st op hports) k
  /- In DAMAGED no host write is past its decision. -/
  have damaged (ho : s.jc.op = .none) (hst : s.jc.state = .damaged) : s.landed := by
    refine landed_of_busy h fun q hq => ?_
    obtain e | e | ⟨e, hq⟩ := hq
    · simp [hst] at e
    · simp [hst] at e
    · exact hdrain q hq ho
  have worked {op : MemOp} (hcur : s.arb.current = some (.journal, op)) {v u : State} (hu : v.works u)
      (ha : v.portA = s.portA) (hb : v.portB = s.portB) (hreset : u.inReset = false) : (u.settle s.arb).writeSound p :=
    settled (works_writeSound hu hreset (landed_congr (landed_of_busy h (busy_of_current hw hcur)) ha hb) p)
  cases he with
  | idles => exact h p
  | follows _ x hreset =>
    refine writeSound_of_landed ?_ p
    exact landed_congr (landed_of_reset h hreset) rfl rfl
  | samples m x hreset =>
    refine writeSound_of_landed ?_ p
    exact landed_congr (landed_of_reset h hreset) rfl rfl
  | begins => exact idle rfl rfl
  | ends _ m x _ hreset => exact writeSound_of_landed (landed_congr (landed_of_reset h hreset) (by simp) (by simp)) p
  | softResets => exact idle (by simp [State.beginReset, State.resetBlocks]) (by simp [State.beginReset, State.resetBlocks])
  | frames => exact same rfl rfl rfl rfl rfl rfl p
  | falls hreset =>
    refine settled (Decides_writeSound (Decides_finishRetake _) (by exact hreset) ?_ p)
    exact same rfl rfl rfl rfl rfl rfl
  | rises hreset =>
    refine settled ?_
    unfold State.pfailRises
    split
    · refine Decides_writeSound (Decides_retakeAtFence _ _) (by exact hreset) ?_ p
      exact same rfl rfl rfl rfl rfl rfl
    · exact same rfl rfl rfl rfl rfl rfl p
  | releases f k hreset =>
    refine settled ?_
    refine writeSound_congr (s := (s.changeFence .normal).retakeAtFence s.fallNext) ?_ rfl rfl id rfl rfl
    refine Decides_writeSound (Decides_retakeAtFence _ _) (by exact hreset) ?_ p
    exact same rfl rfl rfl rfl rfl rfl
  | commits _ k hreset => exact drained _ _ hreset (.inl rfl) k
  | commitsDamaged _ k hreset ho _ hst =>
    refine finished (by simpa [State.inReset] using hreset) (works_writeSound
      (works_of_journalOnly (startAdvance_journalOnly _)) (by simpa [State.inReset] using hreset) ?_) k
    exact landed_congr (damaged ho hst) rfl rfl
  | aborts _ k hreset => exact drained _ _ hreset (.inl rfl) k
  | abortsDamaged _ k hreset ho _ hst =>
    refine finished (by simpa [State.inReset] using hreset) (works_writeSound
      (works_of_journalOnly (startScan_journalOnly _ _)) (by simpa [State.inReset] using hreset) ?_) k
    exact landed_congr (damaged ho hst) rfl rfl
  | formats _ k hreset ho =>
    refine drained _ _ hreset ?_ k
    split
    · rename_i hst
      exact .inr (damaged ho hst)
    · exact .inl rfl
  | applies _ k hreset => exact drained _ _ hreset (.inl rfl) k
  | presents q x _ _ hwhole =>
    refine writeSound_move (p := q) h (fun r hr => (port_setPort s q r _).trans (if_neg (Ne.symm hr)))
      (by simp [State.underWay]) (fun y hy => ?_) (by simp [State.inReset]) (by simp) (by simp) (by simp) p
    simp only [port_setPort, if_true, Option.some.injEq] at hy
    subst hy
    exact presented_whole hwhole
  | responds q =>
    exact writeSound_move (p := q) h (fun r hr => (port_setPort s q r _).trans (if_neg (Ne.symm hr)))
      (by simp [State.underWay]) (by simp) (by simp [State.inReset]) (by simp) (by simp) (by simp) p
  | decides q hreset hstage => exact settled (Decides_writeSound (.decides .none q (.inl hstage)) hreset h p)
  | readCompletes q merr op hreset hcur =>
    obtain ⟨-, ⟨x, hx, -⟩, -⟩ := transaction_of_current hserved hcur
    obtain ⟨h1, h2⟩ := hostReadDone_writeSound (s := s.release) h hx op merr
    refine settled (portResponded_writeSound ?_ (by simpa [State.inReset] using hreset) (by simpa using hdrain) h1 h2 p)
    simpa [State.operationSound] using hop
  | writeCompletes q op hreset hcur =>
    obtain ⟨-, ⟨x, hx, -⟩, -⟩ := transaction_of_current hserved hcur
    obtain ⟨h1, h2⟩ := hostWriteDone_writeSound (s := s.release.storeCells op) h hx
    refine settled (portResponded_writeSound ?_ (by simpa [State.inReset] using hreset) (by simpa using hdrain) h1 h2 p)
    simpa [State.operationSound] using hop
  | takesEntry e rest _ hengine =>
    have hwait : s.engine.waiting = e.port :: rest.map Entry.port := by simp [hengine, Engine.waiting]
    obtain ⟨hst, -⟩ := waiting_head hserved hwait
    refine settled ?_
    unfold State.takeEntry
    split
    · refine handBack_writeSound ?_ (.inl (by exact hst)) p
      exact same rfl rfl rfl rfl rfl rfl
    · exact same rfl rfl rfl rfl rfl rfl p
  | lineRead merr op e hreset =>
    refine settled ?_
    unfold State.lineReadDone
    split
    · exact refuseEntry_writeSound (s := s.release) hop hreset hdrain h e _ p
    · exact same rfl rfl rfl rfl rfl rfl p
  | reserves e image hreset =>
    refine settled ?_
    unfold State.reserve
    split
    · exact same rfl rfl rfl rfl rfl rfl p
    · exact refuseEntry_writeSound hop hreset hdrain h e _ p
  | recordWritten op e n =>
    refine settled (writeSound_congr (h p) (port_congr (by simp) (by simp) p) (by simp [State.inReset]) ?_ (by simp)
      (by simp))
    unfold State.countRecord State.admits
    dsimp only
    split <;> simp
  | inserts e n _ hengine =>
    obtain ⟨hst, -⟩ := waiting_head hserved (waiting_current hengine rfl)
    refine settled (handBack_writeSound ?_ (.inl (by exact hst)) p)
    exact same rfl rfl rfl rfl rfl rfl
  | firstPartRead | firstPartWritten =>
    refine settled ?_
    exact same rfl rfl rfl rfl rfl rfl p
  | copyRead merr op k first m hreset hcur =>
    exact worked hcur (works_of_journalOnly (copyRead_journalOnly _ _ _)) rfl rfl (by simpa [State.inReset] using hreset)
  | copyWritten op k seq hreset hcur =>
    exact worked hcur (anchorDone_works _) rfl rfl (by simpa [State.inReset] using hreset)
  | scrubs op n hreset hcur =>
    exact worked hcur (works_of_journalOnly (scrubbed_journalOnly _ n)) rfl rfl (by simpa [State.inReset] using hreset)
  | scans merr op sc hreset hcur =>
    exact worked hcur (works_of_journalOnly (scanSlot_journalOnly _ _ _ _)) rfl rfl
      (by simpa [State.inReset] using hreset)
  | looksAhead merr op sc hreset hcur =>
    exact worked hcur (works_of_journalOnly (lookAheadSlot_journalOnly _ sc _ _)) rfl rfl
      (by simpa [State.inReset] using hreset)
  | rollsBack merr op rb hreset hcur =>
    exact worked hcur (works_of_journalOnly (rollbackSlot_journalOnly _ rb _ _)) rfl rfl
      (by simpa [State.inReset] using hreset)
  | restores op rb hreset hcur =>
    exact worked hcur (works_of_journalOnly (rollTo_journalOnly _ _)) rfl rfl (by simpa [State.inReset] using hreset)
  | answers | stages | validates =>
    refine settled ?_
    exact same rfl rfl rfl rfl rfl rfl p

/-! ## The reserved area -/

theorem enabledWord_length (be : BitVec 4) (w : Word) : (enabledWord be w).length = 4 := by simp [enabledWord, wordBytes]

theorem hostCells_length (bes : List (BitVec 4)) (ws : List Word) :
    (hostCells bes ws).length = 4 * min bes.length ws.length := by
  induction bes generalizing ws with
  | nil => simp [hostCells]
  | cons be bes ih =>
    cases ws with
    | nil => simp [hostCells]
    | cons w ws =>
      simp only [hostCells, List.length_append, enabledWord_length, ih, List.length_cons]
      omega

theorem lines_le (m : MemSize) : m.lines * 64 ≤ addressSpace := by cases m <;> simp [MemSize.lines, addressSpace]

/-- A byte of a burst that stays in its 32-byte block lies in the line of its first word (R40, R64). -/
theorem line_of_burst {a len i : Nat} (ha : a % 4 = 0) (hlen : a / 4 % 8 + len ≤ 8) (hi : i < 4 * len) :
    (a + i) / 64 = a / 64 := by omega

/-- The host write in progress is one past its decision, with its own cells (R68, R172). -/
theorem write_of_current {s : State} {r : Requester} {op : MemOp} (hserved : s.hostServed) (harb : s.arbiterServes)
    (hcur : s.arb.current = some (r, op)) (hpurpose : op.purpose = .hostWrite) :
    ∃ p x, s.underWay p ∧ (s.port p).txn = some x ∧ x.kind = .write ∧ op = x.writeOp := by
  have hserves := (harb.1 r op hcur).2
  rw [hpurpose] at hserves
  obtain ⟨p, rfl⟩ : ∃ p, r = portRequester p := by
    have hr : r = .portA ∨ r = .portB := of_decide_eq_true hserves
    obtain rfl | rfl := hr
    · exact ⟨.a, rfl⟩
    · exact ⟨.b, rfl⟩
  obtain ⟨hstage, ⟨x, hx, rfl⟩, -⟩ := transaction_of_current hserved hcur
  have hk : x.kind = .write := by
    cases hk : x.kind with
    | write => rfl
    | read => simp [Txn.memOp, hk, Txn.readOp, MemOp.reads] at hpurpose
  exact ⟨p, x, .inr hstage, hx, hk, by simp [Txn.memOp, hk]⟩

/-- Settles O58: the geometries and the writes go through every event, and a write in progress stores only in the line
that its decision resolved. -/
theorem noHostWriteReachesTheReservedArea : Obligations.NoHostWriteReachesTheReservedArea := by
  intro c s t ⟨_, _, _, hcopies, harb, _, _, hw, hservice⟩ hgeom hwrites h
  have he := Event_of_exec h
  obtain ⟨hserved, -⟩ := (serviceSound_iff hw).mp hservice
  obtain ⟨hlawful, hbare⟩ := geometrySound_iff.mp hgeom
  have hwrite := writesSound_iff.mp hwrites
  refine ⟨geometrySound_iff.mpr ⟨Event_lawfulConfig he hlawful hw hcopies, Event_bareSound he hbare hw hcopies⟩,
    writesSound_iff.mpr (Event_writeSound he hw hserved hwrite), fun r op a hcur hpurpose hres => ?_⟩
  by_contra hne
  obtain ⟨r', op', i, b, hcur', -, hi, ha, -⟩ := memoryChangesOnlyUnderAWrite c s t a h hne
  cases hcur.symm.trans hcur'
  obtain ⟨p, x, hu, hx, hk, rfl⟩ := write_of_current hserved harb hcur hpurpose
  obtain ⟨⟨haddr, hlens⟩, hf⟩ := hwrite p x hx
  obtain ⟨-, -, hblock, hrange, pol, w, -, hcover⟩ := hf hk hu
  obtain ⟨hbes, hws⟩ := hlens hk
  have hi' : i < 4 * x.len := by
    have := (List.getElem?_eq_some_iff.mp hi).1
    simpa [Txn.writeOp, hostCells_length, hbes, hws] using this
  have hline : (x.addr + i) / 64 = x.addr / 64 := line_of_burst haddr hblock hi'
  have hspace := lines_le s.memSize
  have hsmall : x.addr + i < addressSpace := by
    have : x.addr / 64 < s.memSize.lines := by omega
    omega
  have ha' : a = x.addr + i := ha.trans (Nat.mod_eq_of_lt hsmall)
  rw [ha', hline, hcover] at hres
  cases hres

end Sys2Proof.Machine
end

section
/-! PROOFS. The Management Port's frames: the checks every command shares, and the commands that read the records,
govern attention and release the fence (R156 to R167). -/
namespace Sys2Proof.Machine

open Sys2Proof

/-! ## The checks of the Management Port (R158) -/

/-- A length that is not the command's fails check 3 (R158). -/
theorem lengthIs_of_legal {f : FrameTail} {n m : Nat} (hn : m = n) (h : (some n : Option Nat) ≠ some f.args.length) :
    lengthIs f m = false := by
  subst hn
  simpa [lengthIs, eq_comm] using h

/-- Every row of a listed command dispatches its frame, and answers a wrong argument length INVALID_ARGUMENT (R156,
R158). -/
theorem exec_dispatches {c : Instr} {code : Byte} {f : FrameTail} (h : frameOf c = some (code, f))
    (hc : c ≠ .unknownCommand code f) (s : State) :
    code ∈ commandCodes ∧ ∃ l body, exec c s = dispatch code f l body s
      ∧ (legalLength code f.args ≠ some f.args.length → l = false ∨ l = true ∧ body s = (.bare .invalidArgument, s)) := by
  cases c with
  | status | commit | abort | format | apply | validate | releaseFence | readReport | readLastOp | readFault
  | clearFault | softReset =>
    cases h
    exact ⟨by decide, lengthIs f 0, _, rfl, fun hl => .inl (lengthIs_of_legal rfl hl)⟩
  | stageRead | ackAttention | setAttentionMask =>
    cases h
    exact ⟨by decide, lengthIs f 1, _, rfl, fun hl => .inl (lengthIs_of_legal rfl hl)⟩
  | stageWrite =>
    cases h
    exact ⟨by decide, true, _, rfl, fun hl => .inr ⟨rfl, by simp [State.stageWrite, parseStageItem_length hl]⟩⟩
  | unknownCommand => cases h; exact absurd rfl hc
  | _ => cases h

/-- A frame of a listed command whose length is not the command's is answered INVALID_ARGUMENT (check 3 of R158). -/
theorem exec_badLength {c : Instr} {code : Byte} {f : FrameTail} {s : State} (h : frameOf c = some (code, f))
    (hc : c ≠ .unknownCommand code f) (ht : s.takesBytes) (ha : s.arbiterSound) (hg : goodCrc code f = true)
    (hl : legalLength code f.args ≠ some f.args.length) :
    exec c s = .next { s with frame := answered code f .invalidArgument [] } := by
  obtain ⟨-, l, body, he, hlen⟩ := exec_dispatches h hc s
  rw [he]
  obtain rfl | ⟨rfl, hb⟩ := hlen hl
  · exact dispatch_badLength ht ha hg
  · exact dispatch_answers ht ha hg rfl hb rfl

/-- A frame whose CRC-8 fails is answered FRAME_ERROR, whatever its row (check 1 of R158). -/
theorem exec_frameError {c : Instr} {code : Byte} {f : FrameTail} {s : State} (h : frameOf c = some (code, f))
    (ht : s.takesBytes) (ha : s.arbiterSound) (hg : goodCrc code f = false) :
    exec c s = .next { s with frame := answered code f .frameError [] } := by
  by_cases hc : c = .unknownCommand code f
  · subst hc
    have : exec (.unknownCommand code f) s = dispatch code f true (fun s => (.bare .unknownCommand, s)) s :=
      if_neg (by simp [crcMatches_eq, hg])
    rw [this]; exact dispatch_frameError ht ha hg
  · obtain ⟨-, l, body, he, -⟩ := exec_dispatches h hc s
    rw [he]; exact dispatch_frameError ht ha hg

/-- Settles O10: every row of a frame goes through the checks in order. -/
theorem aFrameThatFailsACheckChangesNothing : Obligations.AFrameThatFailsACheckChangesNothing := by
  intro c code f s h ht ha
  refine ⟨exec_frameError h ht ha, fun hg hcode => ?_, fun hg hc => exec_badLength h hc ht ha hg,
    fun hg hcode hc => ?_⟩
  · have hc : c = .unknownCommand code f := by
      by_contra hc
      exact hcode (exec_dispatches h hc s).1
    subst hc
    have : exec (.unknownCommand code f) s = dispatch code f true (fun s => (.bare .unknownCommand, s)) s :=
      if_neg (by simp [hcode])
    rw [this]
    exact dispatch_answers ht ha hg rfl rfl rfl
  · subst hc
    exact if_pos (by simp [crcMatches_eq, hg, hcode])

/-! ## The records (R160, R162, R163) -/

/-- A command that reads a record, or changes the attention, outside RECOVERING and not in it (R160). -/
theorem dispatch_unlessRecovering {code : Byte} {f : FrameTail} {l : Bool} {s t : State} {data : List Byte}
    {body : State → Reply × State} (ht : s.takesBytes) (ha : s.arbiterSound) (hg : goodCrc code f = true)
    (hl : l = true) (hb : body s = s.unlessRecovering (.ok data, t)) (hs : t.arb = s.arb) :
    (s.jc.state = .recovering →
      dispatch code f l body s = .next { s with frame := answered code f .busy [s.jc.op.code] })
    ∧ (s.jc.state ≠ .recovering →
      dispatch code f l body s = .next { t with frame := answered code f .ok data }) := by
  constructor <;> intro hr <;> rw [State.unlessRecovering] at hb
  · rw [if_pos hr] at hb; exact dispatch_answers ht ha hg hl hb rfl
  · rw [if_neg hr] at hb; exact dispatch_answers ht ha hg hl hb hs

/-- No arguments are the length of a command without arguments. -/
theorem lengthIs_nil {f : FrameTail} (h : f.args = []) : lengthIs f 0 = true := by simp [lengthIs, h]

/-- One argument byte is the length of a command with one. -/
theorem lengthIs_one {f : FrameTail} {b : Byte} (h : f.args = [b]) : lengthIs f 1 = true := by simp [lengthIs, h]

/-- Settles O12: each of the three commands answers its record's data outside RECOVERING. -/
theorem theRecordsAreRead : Obligations.TheRecordsAreRead := by
  intro f s ht ha hn
  have key : ∀ code body data, goodCrc code f = true →
      body s = s.unlessRecovering (.ok data, s) →
      (s.jc.state = .recovering →
        dispatch code f (lengthIs f 0) body s = .next { s with frame := answered code f .busy [s.jc.op.code] })
      ∧ (s.jc.state ≠ .recovering →
        dispatch code f (lengthIs f 0) body s = .next { s with frame := answered code f .ok data }) :=
    fun code body data hg hb => dispatch_unlessRecovering ht ha hg (lengthIs_nil hn) hb rfl
  refine ⟨fun hg => (key _ _ s.reportData hg rfl).1, fun r hg hr he => ?_,
    fun hg => (key _ _ (lastOpData s.jc.lastOp) hg rfl).1, fun hg hr he => ?_, fun r hg hr he => ?_,
    fun hg => (key _ _ s.attn.faultData hg rfl).1, fun hg hr he => ?_, fun r hg hr he => ?_⟩
  · refine ((key _ _ s.reportData hg rfl).2 hr).trans ?_
    simp [State.reportData, he, Report.data, lineList]
  · refine ((key _ _ (lastOpData s.jc.lastOp) hg rfl).2 hr).trans ?_
    simp [he, lastOpData, flagCode]
  · refine ((key _ _ (lastOpData s.jc.lastOp) hg rfl).2 hr).trans ?_
    simp [he, lastOpData, flagCode, lineList]
  · refine ((key _ _ s.attn.faultData hg rfl).2 hr).trans ?_
    simp [he, Attention.faultData, flagCode]
  · refine ((key _ _ s.attn.faultData hg rfl).2 hr).trans ?_
    simp [he, Attention.faultData, flagCode]

/-! ## Attention (R163, R166, R167) -/

/-- A byte above the six causes names no set (R166). -/
theorem causeSet_of_le {b : Byte} (h : 64 ≤ b.toNat) : causeSet b = none := if_neg (by omega)

/-- A byte within the six causes names its set (R166). -/
theorem causeSet_of_lt {b : Byte} (h : b.toNat < 64) : causeSet b = some (b.setWidth 6) := if_pos h

/-- The set a byte names, given back as a byte (R177). -/
theorem causeByte_of_lt {b : Byte} (h : b.toNat < 64) : causeByte (b.setWidth 6) = b := by
  apply BitVec.eq_of_toNat_eq
  simp only [causeByte, BitVec.toNat_setWidth]
  omega

/-- ACK_ATTENTION of a byte that names causes (R166). -/
theorem ackAttention_of_lt {args : List Byte} {b : Byte} (hb : args = [b]) (h : b.toNat < 64) (s : State) :
    s.ackAttention args = s.unlessRecovering (.ok [causeByte (s.attn.pending &&& ~~~b.setWidth 6)],
      s.setAttn { s.attn with pending := s.attn.pending &&& ~~~b.setWidth 6 }) := by
  simp only [State.ackAttention, hb, List.headD_cons, causeSet_of_lt h]

/-- SET_ATTENTION_MASK of a byte that names causes (R167). -/
theorem setAttentionMask_of_lt {args : List Byte} {b : Byte} (hb : args = [b]) (h : b.toNat < 64) (s : State) :
    s.setAttentionMask args
      = s.unlessRecovering (.ok [b], s.setAttn { s.attn with mask := b.setWidth 6 }) := by
  simp only [State.setAttentionMask, hb, List.headD_cons, causeSet_of_lt h, causeByte_of_lt h]

/-- Settles O13: each command replaces the fault record, the pending set or the mask, and nothing else. -/
theorem attentionIsGovernedByItsCommands : Obligations.AttentionIsGovernedByItsCommands := by
  intro f s ht ha
  refine ⟨fun hn hg => ?_, fun hn hg => ?_, fun b hb => ⟨fun hg h => ?_, fun hg h => ?_, fun hg h hr => ?_,
    fun hg h => ?_, fun hg h => ?_, fun hg h => ?_⟩⟩
  · exact (dispatch_unlessRecovering ht ha hg (lengthIs_nil hn) (t := s.clearFault) rfl rfl).1
  · exact (dispatch_unlessRecovering ht ha hg (lengthIs_nil hn) (t := s.clearFault) rfl rfl).2
  · exact dispatch_answers (r := .bare .invalidArgument) (t := s) ht ha hg (lengthIs_one hb)
      (by simp [State.ackAttention, hb, causeSet_of_le h]) rfl
  · exact (dispatch_unlessRecovering ht ha hg (lengthIs_one hb) (ackAttention_of_lt hb h s) rfl).1
  · refine ⟨_, (dispatch_unlessRecovering ht ha hg (lengthIs_one hb) (ackAttention_of_lt hb h s) rfl).2 hr,
      fun i hi => ?_, rfl⟩
    simp [hi]
  · exact dispatch_answers (r := .bare .invalidArgument) (t := s) ht ha hg (lengthIs_one hb)
      (by simp [State.setAttentionMask, hb, causeSet_of_le h]) rfl
  · exact (dispatch_unlessRecovering ht ha hg (lengthIs_one hb) (setAttentionMask_of_lt hb h s) rfl).1
  · exact (dispatch_unlessRecovering ht ha hg (lengthIs_one hb) (setAttentionMask_of_lt hb h s) rfl).2

/-! ## The frame and SOFT_RESET (R156, R157, R164) -/

/-- Settles O9: the edges of MCS# and the end of a response move the frame alone; SOFT_RESET waits in it. -/
theorem framesOpenAndClose : Obligations.FramesOpenAndClose := by
  refine ⟨fun s hr => ⟨fun hl => ?_, fun k hk hp => ?_, fun cut k hl hk hsoft => ?_⟩, fun f s ht ha hn hg =>
    ⟨fun hop => ?_, fun hop => ?_⟩⟩
  · simp [exec, execFrameOpen, hl, hr, State.setPins, State.setFrame]
  · simp [exec, execResponseSentInFull, hk, hp, hr, State.setFrame]
  · simp [exec, execFrameClose, hl, hr, State.softResetDue, hk, hsoft, State.setPins, State.setFrame]
  · refine (dispatch_answers (r := s.busyReply) (t := s) ht ha hg (lengthIs_nil hn) (if_pos hop) rfl).trans ?_
    simp [State.busyReply, hop, LongOp.code]
  · exact dispatch_answers (r := ⟨.ok, [], true⟩) (t := s) ht ha hg (lengthIs_nil hn) (if_neg hop) rfl

/-! ## The Fence Unit (R149 to R151) -/

/-- Settles O7: the checks of RELEASE_FENCE in order, and the release with no write held. -/
theorem releaseFenceIsDecidedInOrder : Obligations.ReleaseFenceIsDecidedInOrder := by
  intro f s ht ha hn hg
  refine ⟨fun hop => ?_, fun hop hf => ?_, fun hop hm hl hh => ?_⟩
  · exact dispatch_answers (r := s.busyReply) (t := s) ht ha hg (lengthIs_nil hn) (if_pos hop) rfl
  · exact dispatch_answers (r := s.wrongState) (t := s) ht ha hg (lengthIs_nil hn)
      ((if_neg (by simp [hop])).trans (if_pos hf)) rfl
  · refine dispatch_answers (r := .ok []) (t := s.changeFence .normal) ht ha hg (lengthIs_nil hn) ?_ rfl
    rw [State.releaseFence, if_neg (by simp [hop]), if_neg (by simp [hm, hl]), retakeAtFence_noneHeld (by exact hh)]

/-- A fall of PFAIL# outside a reset is an event (R149). -/
theorem exec_pfailFall {s : State} (hr : s.inReset = false) (hl : s.pins.pfailLow = false) :
    exec .pfailFall s = .next
      ((((s.setPins { s.pins with pfailLow := true }).changeFence .fenced).finishRetake).settle s.arb) := by
  simp [exec, execPfailFall, hl, hr, State.occur]

/-- A rise of PFAIL# outside a reset is an event (R150). -/
theorem exec_pfailRise {s : State} (hr : s.inReset = false) (hl : s.pins.pfailLow = true) :
    exec .pfailRise s = .next ((s.setPins { s.pins with pfailLow := false }).pfailRises.settle s.arb) := by
  simp [exec, execPfailRise, hl, hr, State.take, State.pfailRisen]

/-- A rise under LEVEL ends the fence (R150). -/
theorem pfailRises_level {s : State} (h : s.fence.mode = .level) :
    s.pfailRises = (s.changeFence .normal).retakeAtFence (s.changeFence .normal).acceptanceNext := by
  simp [State.pfailRises, h]

/-- A rise under LATCHED latches the fence (R150). -/
theorem pfailRises_latched {s : State} (h : s.fence.mode = .latched) :
    s.pfailRises = s.setFence { s.fence with state := .latched } := by
  simp [State.pfailRises, h]

/-- Settles O6: an edge of PFAIL# moves the fence state, and with no write held or to retake nothing else. -/
theorem pfailMovesTheFence : Obligations.PfailMovesTheFence := by
  intro s hr
  refine ⟨fun hl ha hn => ?_, fun hl ha hm hh => ?_, fun hl ha hm => ?_⟩
  · rw [exec_pfailFall hr hl, finishRetake_noneRetaking (by exact hn), settle_unchanged ha (by rfl)]; rfl
  · rw [exec_pfailRise hr hl, pfailRises_level (by exact hm), retakeAtFence_noneHeld (by exact hh),
      settle_unchanged ha (by rfl)]
    rfl
  · rw [exec_pfailRise hr hl, pfailRises_latched (by exact hm), settle_unchanged ha (by rfl)]; rfl

end Sys2Proof.Machine
end

section
/-! PROOFS. The staging commands: an item's bytes on their way into the staging image and out of it (R136 to R138,
R177, R178). -/
namespace Sys2Proof.Machine

open Sys2Proof

/-! ## Bytes and the numbers they spell (R176, R177) -/

/-- Bytes are the low bytes of the number they spell (R176). -/
theorem leBytes_fromLE (bs : List Byte) : leBytes bs.length (fromLE bs) = bs := by
  induction bs with
  | nil => rfl
  | cons b bs ih =>
    have hb : BitVec.ofNat 8 (b.toNat + 256 * fromLE bs) = b := by
      apply BitVec.eq_of_toNat_eq
      simp
      omega
    have hd : (b.toNat + 256 * fromLE bs) / 256 = fromLE bs := by have := b.isLt; omega
    simp only [List.length_cons, fromLE, leBytes, hb, hd, ih]

/-- The same, most significant byte first (R177). -/
theorem beBytes_fromBE {bs : List Byte} {n : Nat} (h : bs.length = n) : beBytes n (fromBE bs) = bs := by
  subst h
  have := leBytes_fromLE bs.reverse
  rw [List.length_reverse] at this
  simp [beBytes, fromBE, this]

/-! ## The codes of an item (R176) -/

/-- The default policies' codes are 1 to 3 (R176). -/
theorem Policy.ofCode_eq (b : Byte) :
    Policy.ofCode b = if 1 ≤ b.toNat ∧ b.toNat ≤ 3
      then some (if b = 1 then .journaled else if b = 2 then .direct else .guarded) else none := by
  unfold Policy.ofCode
  split
  · next h => subst h; rfl
  · split
    · next h => subst h; rfl
    · split
      · next h => subst h; rfl
      · next h1 h2 h3 => rw [if_neg]; bv_omega

/-- The fence actions' codes are 0 and 1 (R176). -/
theorem FenceAction.ofCode_eq (b : Byte) :
    FenceAction.ofCode b = if b.toNat ≤ 1 then some (if b = 0 then .hold else .refuse) else none := by
  unfold FenceAction.ofCode
  split
  · next h => subst h; rfl
  · split
    · next h => subst h; rfl
    · next h1 h2 => rw [if_neg]; bv_omega

/-- The release modes' codes are 0 and 1 (R176). -/
theorem FenceMode.ofCode_eq (b : Byte) :
    FenceMode.ofCode b = if b.toNat ≤ 1 then some (if b = 0 then .level else .latched) else none := by
  unfold FenceMode.ofCode
  split
  · next h => subst h; rfl
  · split
    · next h => subst h; rfl
    · next h1 h2 => rw [if_neg]; bv_omega

/-- A window's policy codes are 0 to 3, 0 being DISABLED (R176). -/
theorem windowPolicyOfCode_eq (b : Byte) :
    windowPolicyOfCode b = if b.toNat ≤ 3
      then some (if b = 0 then none else if b = 1 then some .journaled else if b = 2 then some .direct
        else some .guarded)
      else none := by
  unfold windowPolicyOfCode
  split
  · next h => subst h; rfl
  · next h =>
    rw [Policy.ofCode_eq]
    by_cases h3 : b.toNat ≤ 3
    · rw [if_pos ⟨by bv_omega, h3⟩, if_pos h3, Option.map_some]
      split
      · rfl
      · split <;> rfl
    · rw [if_neg (by omega), if_neg h3]; rfl

/-- A listed policy's code is the one it was read from (R176). -/
theorem Policy.code_of_ofCode {b : Byte} {p : Policy} (h : Policy.ofCode b = some p) : p.code = b := by
  unfold Policy.ofCode at h
  repeat' split at h
  all_goals cases h
  all_goals exact Eq.symm (by assumption)

/-- A listed action's code is the one it was read from (R176). -/
theorem FenceAction.code_of_ofCode {b : Byte} {x : FenceAction} (h : FenceAction.ofCode b = some x) : x.code = b := by
  unfold FenceAction.ofCode at h
  repeat' split at h
  all_goals cases h
  all_goals exact Eq.symm (by assumption)

/-- A listed mode's code is the one it was read from (R176). -/
theorem FenceMode.code_of_ofCode {b : Byte} {x : FenceMode} (h : FenceMode.ofCode b = some x) : x.code = b := by
  unfold FenceMode.ofCode at h
  repeat' split at h
  all_goals cases h
  all_goals exact Eq.symm (by assumption)

/-- A window policy's code is the one it was read from (R176). -/
theorem windowPolicyCode_of_ofCode {b : Byte} {p : Option Policy} (h : windowPolicyOfCode b = some p) :
    windowPolicyCode p = b := by
  unfold windowPolicyOfCode at h
  split at h
  · next hb => cases h; exact hb.symm
  · obtain ⟨q, hq, rfl⟩ := Option.map_eq_some_iff.1 h
    exact Policy.code_of_ofCode hq

/-! ## STAGE_WRITE (R137) -/

/-- What a STAGE_WRITE with a good CRC-8 does, by whether its fields are legal (R137). -/
theorem exec_stageWrite {f : FrameTail} {s : State} (ht : s.takesBytes) (ha : s.arbiterSound)
    (hg : goodCrc 0x20 f = true) :
    (parseStageItem f.args = none →
      exec (.stageWrite f) s = .next { s with frame := answered 0x20 f .invalidArgument [] })
    ∧ ∀ item, parseStageItem f.args = some item →
      (s.stagingLocked = true →
        exec (.stageWrite f) s = .next { s with frame := answered 0x20 f .busy [s.jc.op.code] })
      ∧ (s.stagingLocked = false →
        exec (.stageWrite f) s = .next { s with frame := answered 0x20 f .ok [], store := s.store.stage item }) := by
  refine ⟨fun hp => ?_, fun item hp => ⟨fun hl => ?_, fun hl => ?_⟩⟩
  · exact dispatch_answers (r := .bare .invalidArgument) (t := s) ht ha hg rfl (by simp [State.stageWrite, hp]) rfl
  · exact dispatch_answers (r := s.busyReply) (t := s) ht ha hg rfl (by simp [State.stageWrite, hp, hl]) rfl
  · exact dispatch_answers (r := .ok []) (t := s.setStore (s.store.stage item)) ht ha hg rfl
      (by simp [State.stageWrite, hp, hl]) rfl

/-- What an item of a geometry carries (R136, R177). -/
theorem parseStageItem_geometry (b3 b2 b1 b0 c1 c0 : Byte) :
    parseStageItem [0x10, b3, b2, b1, b0, c1, c0] =
      if 16777216 * b3.toNat + 65536 * b2.toNat + 256 * b1.toNat + b0.toNat ≤ 262143 then
        some (.geometry ⟨16777216 * b3.toNat + 65536 * b2.toNat + 256 * b1.toNat + b0.toNat,
          256 * c1.toNat + c0.toNat⟩)
      else none := by
  have h1 : fromBE (slice [b3, b2, b1, b0, c1, c0] 0 4)
      = 16777216 * b3.toNat + 65536 * b2.toNat + 256 * b1.toNat + b0.toNat := by
    simp [fromBE, slice, fromLE]; omega
  have h2 : fromBE (slice [b3, b2, b1, b0, c1, c0] 4 2) = 256 * c1.toNat + c0.toNat := by
    simp [fromBE, slice, fromLE]; omega
  simp [parseStageItem, itemGeometry, parseGeometry, h1, h2, maxLine]

/-- What an item of the settings carries (R136, R177). -/
theorem parseStageItem_settings (d a1 a0 x m : Byte) :
    parseStageItem [0x20, d, a1, a0, x, m] =
      if 1 ≤ d.toNat ∧ d.toNat ≤ 3 ∧ x.toNat ≤ 1 ∧ m.toNat ≤ 1 then
        some (.settings (if d = 1 then .journaled else if d = 2 then .direct else .guarded)
          (256 * a1.toNat + a0.toNat) (if x = 0 then .hold else .refuse) (if m = 0 then .level else .latched))
      else none := by
  have h : fromBE (slice [d, a1, a0, x, m] 1 2) = 256 * a1.toNat + a0.toNat := by
    simp [fromBE, slice, fromLE]; omega
  have hi : ((0x20 : Byte) = 0x10) = False := by simp
  simp only [parseStageItem, itemGeometry, itemSettings, hi, if_false, if_true, parseSettings, List.length_cons,
    List.length_nil, h, List.getD_cons_zero, List.getD_cons_succ, Policy.ofCode_eq, FenceAction.ofCode_eq,
    FenceMode.ofCode_eq]
  by_cases hd : 1 ≤ d.toNat ∧ d.toNat ≤ 3
  · by_cases hx : x.toNat ≤ 1
    · by_cases hm : m.toNat ≤ 1
      · simp only [if_pos hd, if_pos hx, if_pos hm, if_pos (And.intro hd.1 (And.intro hd.2 (And.intro hx hm)))]; rfl
      · simp only [if_pos hd, if_pos hx, hm, and_false, if_false]; rfl
    · simp only [if_pos hd, hx, and_false, false_and, if_false]; rfl
  · have hn : ¬ (1 ≤ d.toNat ∧ d.toNat ≤ 3 ∧ x.toNat ≤ 1 ∧ m.toNat ≤ 1) := fun h => hd ⟨h.1, h.2.1⟩
    simp only [if_neg hd, if_neg hn]; rfl

/-- What an item of a window carries (R136, R177). -/
theorem parseStageItem_window (n f3 f2 f1 f0 l3 l2 l1 l0 p : Byte) (hn : n.toNat ≤ 7) :
    parseStageItem [n, f3, f2, f1, f0, l3, l2, l1, l0, p] =
      if 16777216 * f3.toNat + 65536 * f2.toNat + 256 * f1.toNat + f0.toNat ≤ 262143
          ∧ 16777216 * l3.toNat + 65536 * l2.toNat + 256 * l1.toNat + l0.toNat ≤ 262143 ∧ p.toNat ≤ 3 then
        some (.window n.toNat ⟨16777216 * f3.toNat + 65536 * f2.toNat + 256 * f1.toNat + f0.toNat,
          16777216 * l3.toNat + 65536 * l2.toNat + 256 * l1.toNat + l0.toNat,
          if p = 0 then none else if p = 1 then some .journaled else if p = 2 then some .direct
            else some .guarded⟩)
      else none := by
  have h1 : fromBE (slice [f3, f2, f1, f0, l3, l2, l1, l0, p] 0 4)
      = 16777216 * f3.toNat + 65536 * f2.toNat + 256 * f1.toNat + f0.toNat := by
    simp [fromBE, slice, fromLE]; omega
  have h2 : fromBE (slice [f3, f2, f1, f0, l3, l2, l1, l0, p] 4 4)
      = 16777216 * l3.toNat + 65536 * l2.toNat + 256 * l1.toNat + l0.toNat := by
    simp [fromBE, slice, fromLE]; omega
  have hg : n ≠ itemGeometry := by rintro rfl; simp [itemGeometry] at hn
  have hs : n ≠ itemSettings := by rintro rfl; simp [itemSettings] at hn
  simp only [parseStageItem, if_neg hg, if_neg hs, if_pos hn, parseWindow, List.length_cons, List.length_nil, h1, h2,
    List.getD_cons_zero, List.getD_cons_succ, windowPolicyOfCode_eq, true_and, maxLine]
  by_cases hp : p.toNat ≤ 3
  · rw [if_pos hp]; simp only [Option.map_some, hp, and_true]
  · rw [if_neg hp]; simp [hp]

/-- Settles O32: an item with legal fields replaces every field of its own, outside the locked journal states. -/
theorem stageWriteReplacesOneItem : Obligations.StageWriteReplacesOneItem := by
  intro f s ht ha hg
  dsimp only
  obtain ⟨hnone, hsome⟩ := exec_stageWrite ht ha hg
  have key : ∀ (legal : Prop) (item : StageItem) [Decidable legal],
      parseStageItem f.args = (if legal then some item else none) →
      (¬ legal → exec (.stageWrite f) s = .next { s with frame := answered 0x20 f .invalidArgument [] })
      ∧ (legal → (s.jc.state = .recovering ∨ s.jc.state = .applying ∨ s.jc.state = .formatting) →
        exec (.stageWrite f) s = .next { s with frame := answered 0x20 f .busy [s.jc.op.code] })
      ∧ (legal → ¬ (s.jc.state = .recovering ∨ s.jc.state = .applying ∨ s.jc.state = .formatting) →
        exec (.stageWrite f) s
          = .next { s with frame := answered 0x20 f .ok [], store := s.store.stage item }) := by
    intro legal item _ hp
    refine ⟨fun h => hnone (by rw [hp, if_neg h]), fun h hl => ?_, fun h hl => ?_⟩
    · exact (hsome item (by rw [hp, if_pos h])).1 (by simpa [State.stagingLocked] using hl)
    · exact (hsome item (by rw [hp, if_pos h])).2 (by simpa [State.stagingLocked] using hl)
  refine ⟨fun b3 b2 b1 b0 c1 c0 he => ?_, fun d a1 a0 x m he => ?_, fun n f3 f2 f1 f0 l3 l2 l1 l0 p he hn => ?_⟩
  · exact key _ _ (by rw [he]; exact parseStageItem_geometry b3 b2 b1 b0 c1 c0)
  · exact key _ _ (by rw [he]; exact parseStageItem_settings d a1 a0 x m)
  · exact key _ _ (by rw [he]; exact parseStageItem_window n f3 f2 f1 f0 l3 l2 l1 l0 p hn)

/-! ## STAGE_READ (R138) -/

/-- What a STAGE_READ of one byte with a good CRC-8 does (R138). -/
theorem exec_stageRead {f : FrameTail} {s : State} {i : Byte} (ht : s.takesBytes) (ha : s.arbiterSound)
    (hi : f.args = [i]) (hg : goodCrc 0x21 f = true) :
    (s.store.item i = none →
      exec (.stageRead f) s = .next { s with frame := answered 0x21 f .invalidArgument [] })
    ∧ ∀ item, s.store.item i = some item →
      (s.jc.state = .recovering →
        exec (.stageRead f) s = .next { s with frame := answered 0x21 f .busy [s.jc.op.code] })
      ∧ (s.jc.state ≠ .recovering →
        exec (.stageRead f) s = .next { s with
          frame := answered 0x21 f .ok (item.bytes ++ [s.store.staging.code]) }) := by
  refine ⟨fun hp => ?_, fun item hp => ⟨fun hl => ?_, fun hl => ?_⟩⟩
  · exact dispatch_answers (r := .bare .invalidArgument) (t := s) ht ha hg (lengthIs_one hi)
      (by simp [State.stageRead, hi, hp]) rfl
  · exact dispatch_answers (r := s.busyReply) (t := s) ht ha hg (lengthIs_one hi)
      (by simp [State.stageRead, hi, hp, hl]) rfl
  · exact dispatch_answers (r := .ok (item.bytes ++ [s.store.staging.code])) (t := s) ht ha hg (lengthIs_one hi)
      (by simp [State.stageRead, hi, hp, hl]) rfl

/-- The items an item byte names (R136). -/
theorem item_isSome {c : Store} {i : Byte} (h : i = 0x10 ∨ i = 0x20 ∨ i.toNat ≤ 7) : ∃ x, c.item i = some x := by
  unfold Store.item
  split
  · exact ⟨_, rfl⟩
  · split
    · exact ⟨_, rfl⟩
    · obtain h | h | h := h
      · contradiction
      · contradiction
      · exact ⟨_, if_pos h⟩

/-- The window an item byte names (R136). -/
theorem item_window {c : Store} {i : Byte} (h : i.toNat ≤ 7) :
    c.item i = some (.window i.toNat (c.staged.windows.getD i.toNat ⟨0, 0, none⟩)) := by
  have hg : i ≠ itemGeometry := by rintro rfl; simp [itemGeometry] at h
  have hs : i ≠ itemSettings := by rintro rfl; simp [itemSettings] at h
  rw [Store.item, if_neg hg, if_neg hs, if_pos h]

/-- The staging state's code (R178). -/
theorem Staging.code_eq (x : Staging) : x.code = if x = .ready then 0x01 else 0x00 := by cases x <;> rfl

/-- Settles O33: each listed item is answered with its fields and the staging state. -/
theorem stageReadReturnsOneItem : Obligations.StageReadReturnsOneItem := by
  intro f s i ht ha hi hg
  dsimp only
  obtain ⟨hnone, hsome⟩ := exec_stageRead ht ha hi hg
  refine ⟨fun h1 h2 h3 => hnone ?_, fun h hr => ?_, fun h hr => ?_, fun h hr => ?_, fun w h hw hr => ?_⟩
  · rw [Store.item, if_neg (by exact h1), if_neg (by exact h2), if_neg (by omega)]
  · obtain ⟨item, he⟩ := item_isSome (c := s.store) h
    exact (hsome item he).1 hr
  · subst h
    rw [(hsome _ rfl).2 hr, Staging.code_eq]
    rfl
  · subst h
    rw [(hsome _ rfl).2 hr, Staging.code_eq]
    simp [StageItem.bytes, itemSettings]
  · rw [(hsome _ (item_window h)).2 hr, Staging.code_eq]
    simp [StageItem.bytes, hw]

/-! ## There and back (R137, R138) -/

/-- The three forms of a legal item (R136, R177). -/
theorem parseStageItem_cases {args : List Byte} {item : StageItem} (h : parseStageItem args = some item) :
    ∃ i rest, args = i :: rest ∧
      ((i = itemGeometry ∧ rest.length = 6
          ∧ item = .geometry ⟨fromBE (slice rest 0 4), fromBE (slice rest 4 2)⟩)
        ∨ (i = itemSettings ∧ rest.length = 5 ∧ ∃ d x m, Policy.ofCode (rest.getD 0 0) = some d
          ∧ FenceAction.ofCode (rest.getD 3 0) = some x ∧ FenceMode.ofCode (rest.getD 4 0) = some m
          ∧ item = .settings d (fromBE (slice rest 1 2)) x m)
        ∨ (i.toNat ≤ 7 ∧ rest.length = 9 ∧ ∃ p, windowPolicyOfCode (rest.getD 8 0) = some p
          ∧ item = .window i.toNat ⟨fromBE (slice rest 0 4), fromBE (slice rest 4 4), p⟩)) := by
  obtain _ | ⟨i, rest⟩ := args
  · cases h
  refine ⟨i, rest, rfl, ?_⟩
  simp only [parseStageItem, parseGeometry, parseSettings, parseWindow] at h
  split at h
  · next hi =>
    split at h <;> cases h
    next hl => exact .inl ⟨hi, hl.1, rfl⟩
  · split at h
    · next hi =>
      split at h
      · next hl =>
        simp only [Option.bind_eq_bind, Option.bind_eq_some_iff, Option.pure_def, Option.some.injEq] at h
        obtain ⟨d, hd, x, hx, m, hm, rfl⟩ := h
        exact .inr (.inl ⟨hi, hl, d, x, m, hd, hx, hm, rfl⟩)
      · cases h
    · split at h
      · next hi =>
        split at h
        · next hl =>
          obtain ⟨p, hp, rfl⟩ := Option.map_eq_some_iff.1 h
          exact .inr (.inr ⟨hi, hl.1, p, hp, rfl⟩)
        · cases h
      · cases h

/-- A byte of a list, as a list of its own. -/
theorem slice_one {bs : List Byte} {k : Nat} (h : k < bs.length) : [bs.getD k 0] = slice bs k 1 := by
  rw [slice, List.getD_eq_getElem _ _ h, List.take_one_drop_eq_of_lt_length h]; rfl

/-- Bytes fall into the first and the rest. -/
theorem slice_append (bs : List Byte) (k n m : Nat) : slice bs k n ++ slice bs (k + n) m = slice bs k (n + m) := by
  simp only [slice, List.take_add, List.drop_drop]

/-- All the bytes of a list. -/
theorem slice_all {bs : List Byte} {n : Nat} (h : bs.length = n) : slice bs 0 n = bs := by
  simp [slice, ← h]

/-- As many bytes as asked for. -/
theorem slice_length {bs : List Byte} {k n : Nat} (h : k + n ≤ bs.length) : (slice bs k n).length = n := by
  simp [slice]; omega

/-- The bytes of an item are the bytes it was read from (R177, R178). -/
theorem bytes_of_parseStageItem {args : List Byte} {item : StageItem} (h : parseStageItem args = some item) :
    item.bytes = args := by
  obtain ⟨i, rest, rfl, ⟨hi, hl, rfl⟩ | ⟨hi, hl, d, x, m, hd, hx, hm, rfl⟩ | ⟨hi, hl, p, hp, rfl⟩⟩ :=
    parseStageItem_cases h
  · simp only [StageItem.bytes, beBytes_fromBE (slice_length (bs := rest) (k := 0) (n := 4) (by omega)),
      beBytes_fromBE (slice_length (bs := rest) (k := 4) (n := 2) (by omega)), List.cons_append, hi]
    rw [slice_append rest 0 4 2, slice_all hl]
  · simp only [StageItem.bytes, beBytes_fromBE (slice_length (bs := rest) (k := 1) (n := 2) (by omega)),
      Policy.code_of_ofCode hd, FenceAction.code_of_ofCode hx, FenceMode.code_of_ofCode hm, hi, List.cons_append,
      List.nil_append]
    refine congrArg _ ?_
    calc rest.getD 0 0 :: (slice rest 1 2 ++ [rest.getD 3 0, rest.getD 4 0])
        = [rest.getD 0 0] ++ (slice rest 1 2 ++ ([rest.getD 3 0] ++ [rest.getD 4 0])) := rfl
      _ = slice rest 0 1 ++ (slice rest 1 2 ++ (slice rest 3 1 ++ slice rest 4 1)) := by
          rw [slice_one (by omega), slice_one (by omega), slice_one (by omega)]
      _ = rest := by
          rw [slice_append rest 3 1 1, slice_append rest 1 2 2, slice_append rest 0 1 4, slice_all hl]
  · simp only [StageItem.bytes, beBytes_fromBE (slice_length (bs := rest) (k := 0) (n := 4) (by omega)),
      beBytes_fromBE (slice_length (bs := rest) (k := 4) (n := 4) (by omega)), windowPolicyCode_of_ofCode hp,
      BitVec.ofNat_toNat, BitVec.setWidth_eq, List.cons_append]
    rw [slice_one (by omega), slice_append rest 0 4 4, slice_append rest 0 8 1, slice_all hl]

/-- An item written into the staging image is the one its byte names (R137, R138). -/
theorem item_stage {c : Store} {args : List Byte} {item : StageItem} (h : parseStageItem args = some item)
    (hw : c.staged.windows.length = 8) : (c.stage item).item (args.headD 0) = some item := by
  obtain ⟨i, rest, rfl, ⟨hi, -, rfl⟩ | ⟨hi, -, d, x, m, -, -, -, rfl⟩ | ⟨hi, -, p, -, rfl⟩⟩ := parseStageItem_cases h
  · simp [Store.item, hi, Store.stage]
  · simp [Store.item, hi, Store.stage, itemSettings, itemGeometry]
  · have : i.toNat < c.staged.windows.length := by omega
    rw [List.headD_cons, item_window hi]
    simp [Store.stage, List.getD_eq_getElem?_getD, this]

/-- A frame answered with one result is answered with no other (R159, R177). -/
theorem answered_result {code : Byte} {f : FrameTail} {r r' : Result} {d d' : List Byte} {b b' : Bool}
    (h : answered code f r d b = answered code f r' d' b') : r.code = r'.code := by
  simp only [answered, Option.some.injEq, Frame.mk.injEq, List.cons_append, List.cons.injEq] at h
  exact h.2.2.2.1.2.1

/-- Settles O34: the bytes a STAGE_WRITE carried are the bytes of its item, which stands in the staging image. -/
theorem stagedItemsReadBackAsWritten : Obligations.StagedItemsReadBackAsWritten := by
  intro f f' s t ht ha hw he hk hargs hg'
  have hg : goodCrc 0x20 f = true := by
    by_contra hg
    rw [exec_frameError (f := f) rfl ht ha (by simpa using hg)] at he
    cases he
    exact absurd (answered_result hk) (by decide)
  obtain ⟨hnone, hsome⟩ := exec_stageWrite ht ha hg
  cases hp : parseStageItem f.args with
  | none =>
    rw [hnone hp] at he
    cases he
    exact absurd (answered_result hk) (by decide)
  | some item =>
    cases hl : s.stagingLocked with
    | true =>
      rw [(hsome item hp).1 hl] at he
      cases he
      exact absurd (answered_result hk) (by decide)
    | false =>
      rw [(hsome item hp).2 hl] at he
      cases he
      have hr : s.jc.state ≠ .recovering := (by simpa [State.stagingLocked] using hl :
        ¬ s.jc.state = .recovering ∧ _).1
      obtain ⟨-, hread⟩ := exec_stageRead (s := { s with store := s.store.stage item }) ht ha hargs hg'
      rw [(hread item (item_stage hp hw)).2 hr, bytes_of_parseStageItem hp]
      have hd : (s.store.stage item).staging.code = 0 := by cases item <;> rfl
      simp only [hd]

end Sys2Proof.Machine
end

section
/-! PROOFS. The step, the resets, the output pins and the presentation and response of a host transaction (R6, R8,
R43, R61, R118, R119, R156, R167 to R172). -/
namespace Sys2Proof.Machine

open Sys2Proof

/-! ## The step (log 1, log 2) -/

/-- An event that may not be taken answers a next state all the same (log 2). -/
theorem take_answers (s : State) (e : Option State) : ∃ t, s.take e = .next t := by
  cases e <;> exact ⟨_, rfl⟩

/-- Every command answers a next state in every state (log 2). -/
theorem exec_answers (c : Instr) (s : State) : ∃ t, exec c s = .next t := by
  cases c with
  | powerOnResetStart | powerOnResetEnd | resetPinLow | resetPinHigh | pfailFall | frameOpen | frameClose
  | hostPresentation | hostResponse =>
    simp only [exec, execPowerOnResetStart, execPowerOnResetEnd, execResetPinLow, execResetPinHigh, execPfailFall,
      execFrameOpen, execFrameClose, execHostPresentation, execHostResponse]
    repeat' split
    all_goals exact ⟨_, rfl⟩
  | pfailRise =>
    simp only [exec, execPfailRise]
    repeat' split
    · exact ⟨_, rfl⟩
    · exact ⟨_, rfl⟩
    · exact take_answers _ _
  | unknownCommand code f =>
    simp only [exec, execUnknownCommand]
    split
    · exact ⟨_, rfl⟩
    · exact take_answers _ _
  | responseSentInFull =>
    simp only [exec, execResponseSentInFull]
    repeat' split
    all_goals exact ⟨_, rfl⟩
  | hostReadComplete p merr => simp only [exec, execHostReadComplete]; split <;> exact ⟨_, rfl⟩
  | hostWriteComplete p => simp only [exec, execHostWriteComplete]; split <;> exact ⟨_, rfl⟩
  | lineReadComplete merr => simp only [exec, execLineReadComplete]; split <;> exact ⟨_, rfl⟩
  | recordWriteComplete => simp only [exec, execRecordWriteComplete]; split <;> exact ⟨_, rfl⟩
  | anchorReadFirstPartComplete merr => simp only [exec, execAnchorReadFirstPartComplete]; split <;> exact ⟨_, rfl⟩
  | anchorReadComplete merr => simp only [exec, execAnchorReadComplete]; split <;> exact ⟨_, rfl⟩
  | anchorWriteFirstPartComplete => simp only [exec, execAnchorWriteFirstPartComplete]; split <;> exact ⟨_, rfl⟩
  | anchorWriteComplete => simp only [exec, execAnchorWriteComplete]; split <;> exact ⟨_, rfl⟩
  | scrubWriteComplete => simp only [exec, execScrubWriteComplete]; split <;> exact ⟨_, rfl⟩
  | scanReadComplete merr => simp only [exec, execScanReadComplete]; split <;> exact ⟨_, rfl⟩
  | lookAheadReadComplete merr => simp only [exec, execLookAheadReadComplete]; split <;> exact ⟨_, rfl⟩
  | rollbackReadComplete merr => simp only [exec, execRollbackReadComplete]; split <;> exact ⟨_, rfl⟩
  | rollbackLineWriteComplete => simp only [exec, execRollbackLineWriteComplete]; split <;> exact ⟨_, rfl⟩
  | _ => exact take_answers _ _

@[simp] theorem sampleStraps_pending (s : State) (m : BitVec 3) : (s.sampleStraps m).pending = s.pending := rfl

@[simp] theorem beginReset_pending (s : State) (why : StartCause) (cut : Nat) :
    (s.beginReset why cut).pending = s.pending := by
  simp [State.beginReset, State.resetBlocks]

/-- No command touches the queue (log 1). -/
theorem Event_pending {s t : State} {c : Instr} (h : s.Event c t) : t.pending = s.pending := by
  cases h <;> simp

/-- Settles O1: the step is the front command's meaning, and that leaves the queue. -/
theorem stepTakesTheFrontCommand : Obligations.StepTakesTheFrontCommand := by
  refine ⟨fun c rest s => ⟨fun h => ?_, fun h => ?_⟩, fun c s => ?_⟩
  · simp only [step, h]; rfl
  · simp only [step, h]
  · obtain ⟨t, h⟩ := exec_answers c s
    exact ⟨t, h, Event_pending (Event_of_exec h)⟩

/-! ## The beginning of a reset (R118, R119) -/

/-- A cut-off write, or none, touches nothing but the memory and the free values (R172). -/
theorem tear_eq (s : State) (cut : Nat) :
    s.tear cut = { s with mem := (s.tear cut).mem, free := (s.tear cut).free } := by
  unfold State.tear
  split
  · split <;> rfl
  · rfl

/-- A reset that cuts off no write leaves the memory (R8, R172). -/
theorem tear_mem_of_noWrite {s : State} {cut : Nat}
    (h : ∀ r op, s.arb.current = some (r, op) → op.purpose.isWrite = false) : (s.tear cut).mem = s.mem := by
  unfold State.tear
  split
  · next hcur => rw [if_neg (by simp [h _ _ hcur])]
  · rfl

/-- What a reset leaves in every block, with the pins as they come to be (R119, R135). -/
theorem beginReset_eq (s : State) (why : StartCause) (cut : Nat) :
    s.beginReset why cut = { s.resetBlocks why with mem := (s.tear cut).mem, free := (s.tear cut).free } := by
  rw [State.beginReset, tear_eq]; rfl

/-- The blocks after a reset has begun, whatever the pins but PFAIL# (R119, R135). -/
theorem resetValues_of_begin (s : State) (why : StartCause) (cut : Nat) {x : Pins}
    (hx : x.pfailLow = s.pins.pfailLow) : ((s.beginReset why cut).setPins x).resetValues := by
  simp [State.resetValues, beginReset_eq, State.resetBlocks, State.setPins, Setup.reset, Geometry.unformatted,
    Filter.empty, fenceSample, Decoder.load, MemSize.anchorFirst, hx]

/-! ## The end of a reset (R43, R118, R148, R156) -/

/-- A reset ends with the read of copy A in progress, nothing else being at the arbiter (R88, R118). -/
theorem endReset_granted {s : State} {b : Arbiter} (h : s.arb = ⟨.journal, none, none, none, none, none⟩) :
    s.endReset.grantNow b = { s with
      fence := fenceSample s.pins.pfailLow
      frame := ignoredFrame s.pins.mcsLow
      jc := { s.jc with
        state := .recovering, op := .recovery, step := some .anchorSearch, working := some (.start s.cause) }
      anchors := { s.anchors with op := some (.readFirst .a) }
      arb := ⟨.journal, none, none, none, none,
        some (.journal, ⟨.anchorReadFirst, s.memSize.lines * 64 - 256, 20, []⟩)⟩ } := by
  have hc : s.endReset.arb.current = none := by
    simp [State.endReset, State.request, h]
  have hr : s.endReset.arb.request .journal = some (.reads .anchorReadFirst (Copy.a.addr s.memSize) 20) := by
    simp [State.endReset, State.request]
  have ho : ∀ q, q ≠ .journal → s.endReset.arb.request q = none := by
    intro q hq
    cases q
    case journal => exact absurd rfl hq
    all_goals simp [State.endReset, State.request, h, Arbiter.request, Arbiter.setRequest]
  rw [grantNow_alone hc hr ho]
  simp only [State.endReset, State.request, State.setArb, State.setAnchors, State.setJc, State.setFrame,
    State.setFence, h]
  rfl

/-- Settles O2: all three kinds go through the same reset of the blocks. -/
theorem everyResetLeavesTheSameValues : Obligations.EveryResetLeavesTheSameValues := by
  refine ⟨fun cut s hs => ?_, fun cut s hs hl => ?_, fun cut s k hr hl hk hsoft => ?_⟩
  · have he : exec (.powerOnResetStart cut) s
        = .next ((s.beginReset .powerOn cut).setPins { s.pins with supplyLow := true }) := by
      simp [exec, execPowerOnResetStart, hs]
    refine ⟨_, he, resetValues_of_begin s _ cut rfl, ?_⟩
    rw [beginReset_eq]
    exact ⟨rfl, rfl, rfl, rfl, rfl, rfl, rfl, rfl, rfl, tear_mem_of_noWrite⟩
  · have he : exec (.resetPinLow cut) s
        = .next ((s.beginReset .resetPin cut).setPins { s.pins with resetLow := true }) := by
      simp [exec, execResetPinLow, hs, hl]
    refine ⟨_, he, resetValues_of_begin s _ cut rfl, ?_⟩
    rw [beginReset_eq]
    exact ⟨rfl, rfl, rfl, rfl, rfl, rfl, rfl, rfl, rfl, tear_mem_of_noWrite⟩
  · have he : exec (.frameClose cut) s = .next
        ((((s.setPins { s.pins with mcsLow := false }).beginReset .soft cut).endReset).grantNow s.arb) := by
      simp [exec, execFrameClose, hl, hr, State.softResetDue, hk, hsoft]
    refine ⟨_, he, ?_⟩
    rw [endReset_granted (by rw [beginReset_eq]; rfl), beginReset_eq]
    refine ⟨?_, rfl, rfl, rfl, rfl, rfl, rfl, rfl, rfl, rfl, fun h => ?_⟩
    · simp [State.resetValues, State.resetBlocks, State.setPins, Setup.reset, Geometry.unformatted, Filter.empty,
        fenceSample, Decoder.load, MemSize.anchorFirst]
    · exact tear_mem_of_noWrite (s := s.setPins { s.pins with mcsLow := false }) h

/-! ## A write a reset cuts off (R172) -/

/-- A byte whose cell is not enabled keeps its value (R172). -/
theorem Mem.read_writeCells_disabled (m : Mem) (a : Nat) (cs : List (Option Byte)) (hl : cs.length ≤ addressSpace)
    (i : Nat) (h : cs[i]? = some none) :
    (m.writeCells a cs).read ((a + i) % addressSpace) = m.read ((a + i) % addressSpace) := by
  refine Mem.read_writeCells_other m a cs _ fun j b hj he => ?_
  have hi : i < cs.length := (List.getElem?_eq_some_iff.1 h).1
  have hj' : j < cs.length := (List.getElem?_eq_some_iff.1 hj).1
  have : i = j := by simp only [addressSpace] at he hl; omega
  rw [this, hj] at h
  cases h

/-- What is left of a cell when its write is cut off (R172). -/
theorem tornCells_get (cut : Nat) (lanes : BitVec 4) (cs : List (Option Byte)) (i : Nat) (c : Option Byte)
    (h : cs[i]? = some c) :
    (tornCells cut lanes cs)[i]?
      = some (if i / 4 < cut then c else if i / 4 = cut ∧ lanes.getLsbD (i % 4) then c else none) := by
  simp [tornCells, h]

/-- The memory after a reset has cut off a write (R172). -/
theorem tear_mem {s : State} {r : Requester} {op : MemOp} {cut : Nat} (hcur : s.arb.current = some (r, op))
    (hw : op.purpose.isWrite = true) :
    (s.tear cut).mem = s.mem.writeCells op.addr (tornCells cut (Config.tornLanes s.free) op.cells) := by
  unfold State.tear
  rw [hcur]
  simp only [hw, if_true]
  rfl

/-- What a torn write leaves in memory, word by word (R172). -/
theorem read_writeCells_tornCells (m : Mem) (a cut : Nat) (lanes : BitVec 4) (cs : List (Option Byte))
    (hl : cs.length ≤ addressSpace) (i : Nat) (b : Byte) (h : cs[i]? = some (some b)) :
    let m' := m.writeCells a (tornCells cut lanes cs)
    (i / 4 < cut → m'.read ((a + i) % addressSpace) = b)
    ∧ (i / 4 = cut → m'.read ((a + i) % addressSpace) = b
        ∨ m'.read ((a + i) % addressSpace) = m.read ((a + i) % addressSpace))
    ∧ (cut < i / 4 → m'.read ((a + i) % addressSpace) = m.read ((a + i) % addressSpace)) := by
  have hl' : (tornCells cut lanes cs).length ≤ addressSpace := by simpa [tornCells] using hl
  have hi := tornCells_get cut lanes cs i (some b) h
  refine ⟨fun hc => ?_, fun hc => ?_, fun hc => ?_⟩
  · rw [if_pos hc] at hi
    exact Mem.read_writeCells m a _ hl' i b hi
  · rw [if_neg (by omega)] at hi
    split at hi
    · exact .inl (Mem.read_writeCells m a _ hl' i b hi)
    · exact .inr (Mem.read_writeCells_disabled m a _ hl' i hi)
  · rw [if_neg (by omega), if_neg (by omega)] at hi
    exact Mem.read_writeCells_disabled m a _ hl' i hi

/-- The memory right after a reset of any kind has begun (R172). -/
theorem mem_of_reset {c : Instr} {cut : Nat} {s t : State} (hr : s.inReset = false)
    (hc : c = .powerOnResetStart cut ∨ c = .resetPinLow cut
      ∨ (c = .frameClose cut ∧ s.pins.mcsLow = true ∧ ∃ k, s.frame = some k ∧ k.softReset = true))
    (h : exec c s = .next t) : t.mem = (s.tear cut).mem := by
  obtain ⟨hs, hl⟩ : s.pins.supplyLow = false ∧ s.pins.resetLow = false := by simpa [State.inReset] using hr
  obtain rfl | rfl | ⟨rfl, hm, k, hk, hsoft⟩ := hc
  · simp only [exec, execPowerOnResetStart, hs] at h
    cases h
    simp
  · simp only [exec, execResetPinLow, hs, hl] at h
    cases h
    simp
  · have he : exec (.frameClose cut) s = .next
        ((((s.setPins { s.pins with mcsLow := false }).beginReset .soft cut).endReset).grantNow s.arb) := by
      simp [exec, execFrameClose, hm, hr, State.softResetDue, hk, hsoft]
    rw [he] at h
    cases h
    simp only [State.grantNow_untouched, endReset_untouched, beginReset_mem]
    unfold State.tear
    simp only [State.setPins_arb]
    split
    · split <;> rfl
    · rfl

/-- Settles O3: a reset leaves of the write what `tornCells` leaves, and no other byte changes. -/
theorem aCutOffWriteIsTorn : Obligations.ACutOffWriteIsTorn := by
  intro c cut s t r op hr hc hcur hw hl h
  rw [mem_of_reset hr hc h, tear_mem hcur hw]
  refine ⟨fun i b hi => read_writeCells_tornCells s.mem op.addr cut _ op.cells (by simp only [addressSpace]; omega) i b hi,
    fun a ha => Mem.read_writeCells_other _ _ _ _ fun i b hi => ha i b (carries_tornCells op cut _ i b hi)⟩

/-! ## The pins during a reset (log 11) -/

/-- The memory lines of a strap sample (R43). -/
theorem lines_ofStraps (m : BitVec 3) :
    (MemSize.ofStraps m).lines = (if m = 0 then 16384 else if m = 1 then 32768 else if m = 2 then 65536
      else if m = 3 then 131072 else 262144) := by
  unfold MemSize.ofStraps
  repeat' split
  all_goals rfl

/-- Settles O4: the straps, PFAIL# and MCS# are sampled, and the read of copy A is granted. -/
theorem aResetEndsInRecovery : Obligations.AResetEndsInRecovery := by
  intro c m s hc ha
  have he : exec c s = .next ((((s.sampleStraps m).setPins
      { s.pins with supplyLow := false, resetLow := false }).endReset).grantNow s.arb) := by
    obtain ⟨rfl, hs, hl⟩ | ⟨rfl, hl, hs⟩ := hc
    · simp [exec, execPowerOnResetEnd, hs, hl]
    · simp [exec, execResetPinHigh, hs, hl]
  rw [endReset_granted
    (s := (s.sampleStraps m).setPins { s.pins with supplyLow := false, resetLow := false }) ha] at he
  exact ⟨_, he, lines_ofStraps m, rfl⟩

/-- No frame is dispatched in a reset (R156). -/
theorem dispatched_inReset {s : State} (h : s.inReset = true) (code : Byte) (f : FrameTail) (l : Bool)
    (body : State → Reply × State) : s.dispatched code f l body = none :=
  if_neg (by simp [State.receiving, h])

/-- No frame is answered in a reset (R156). -/
theorem dispatch_inReset {s : State} (h : s.inReset = true) (code : Byte) (f : FrameTail) (l : Bool)
    (body : State → Reply × State) : dispatch code f l body s = .next s := by
  rw [dispatch, dispatched_inReset h]; rfl

/-- The memory port completes nothing in a reset (R171). -/
theorem inProgress_inReset {s : State} (h : s.inReset = true) (r : Requester) (p : Purpose) :
    s.inProgress r p = none := if_pos h

/-- A command that is no edge of an input does nothing in a reset (R118, R156, R171). -/
theorem exec_inReset {s : State} {c : Instr} (h : s.inReset = true) (he : s.edge c = false) :
    exec c s = .next s := by
  cases c with
  | powerOnResetStart | powerOnResetEnd | resetPinLow | resetPinHigh | pfailFall | pfailRise | frameOpen
  | frameClose =>
    simp only [State.edge, Bool.not_eq_false'] at he
    simp [exec, execPowerOnResetStart, execPowerOnResetEnd, execResetPinLow, execResetPinHigh, execPfailFall,
      execPfailRise, execFrameOpen, execFrameClose, he]
  | unknownCommand code f =>
    simp only [exec, execUnknownCommand, dispatch_inReset h, ite_self]
  | status | stageWrite | stageRead | validate | readReport | readLastOp | readFault | clearFault | ackAttention
  | setAttentionMask | softReset => exact dispatch_inReset h _ _ _ _
  | commit | abort | format | apply | releaseFence => exact dispatch_inReset h _ _ _ _
  | hostPresentation p q => simp [exec, execHostPresentation, h]
  | policyDecision p => simp [exec, execPolicyDecision, State.decided, State.take, h]
  | hostResponse p => simp [exec, execHostResponse, h]
  | captureTake => simp [exec, execCaptureTake, State.captureTaken, State.take, h]
  | slotReservation => simp [exec, execSlotReservation, State.slotReserved, State.take, h]
  | filterInsertion => simp [exec, execFilterInsertion, State.lineInserted, State.take, h]
  | responseSentInFull =>
    simp only [exec, execResponseSentInFull, h]
    split
    · simp
    · rfl
  | hostReadComplete | hostWriteComplete | lineReadComplete | recordWriteComplete | anchorReadFirstPartComplete
  | anchorReadComplete | anchorWriteFirstPartComplete | anchorWriteComplete | scrubWriteComplete | scanReadComplete
  | lookAheadReadComplete | rollbackReadComplete | rollbackLineWriteComplete =>
    simp [exec, execHostReadComplete, execHostWriteComplete, execLineReadComplete, execRecordWriteComplete,
      execAnchorReadFirstPartComplete, execAnchorReadComplete, execAnchorWriteFirstPartComplete,
      execAnchorWriteComplete, execScrubWriteComplete, execScanReadComplete, execLookAheadReadComplete,
      execRollbackReadComplete, execRollbackLineWriteComplete, inProgress_inReset h]

/-- Settles O5: only the levels of the pins move, and the straps at the end of a power-on reset. -/
theorem aLastingResetFollowsThePins : Obligations.ALastingResetFollowsThePins := by
  intro s
  refine ⟨fun m hs hl => ?_, fun cut hs hl => ?_,
    fun m hs hl => ?_, fun h hp => ?_, fun h hp => ?_, fun h hp => ?_, fun cut h hp => ?_, fun c => exec_inReset⟩
  · have he : exec (.powerOnResetEnd m) s = .next ((s.sampleStraps m).setPins { s.pins with supplyLow := false }) := by
      simp [exec, execPowerOnResetEnd, hs, hl]
    exact ⟨_, he, lines_ofStraps m, rfl⟩
  · simp [exec, execResetPinLow, hs, hl, State.setPins]
  · simp [exec, execResetPinHigh, hs, hl, State.setPins]
  · simp [exec, execPfailFall, h, hp, State.setPins]
  · simp [exec, execPfailRise, h, hp, State.setPins]
  · simp [exec, execFrameOpen, h, hp, State.setPins]
  · simp [exec, execFrameClose, h, hp, State.setPins]

/-! ## The output pins (R6, R156, R167, R171) -/

/-- The path is CLOSED in three journal states (R6). -/
theorem pathMode_closed_iff (j : JournalState) :
    j.pathMode = .closed ↔ j = .recovering ∨ j = .aborting ∨ j = .formatting := by
  cases j <;> simp [JournalState.pathMode]

/-- Two sets of causes have one in common (R167). -/
theorem and_ne_zero_iff (x y : BitVec 6) :
    x &&& y ≠ 0 ↔ ∃ i, i < 6 ∧ x.getLsbD i = true ∧ y.getLsbD i = true := by
  constructor
  · intro h
    by_contra hn
    refine h (BitVec.eq_of_getLsbD_eq fun i hi => ?_)
    simpa using fun hx => by_contra fun hy => hn ⟨i, hi, hx, by simpa using hy⟩
  · rintro ⟨i, -, hx, hy⟩ h
    have : (x &&& y).getLsbD i = false := by simp [h]
    simp [hx, hy] at this

/-- Settles O14: each pin is a function of the state, read off case by case. -/
theorem theOutputPinsFollowTheState : Obligations.TheOutputPinsFollowTheState := by
  intro s
  refine ⟨?_, ?_, fun k hk hp => ?_, fun k hk hp => ?_, fun hk => ?_⟩
  · simp [State.openPin, State.pathMode, pathMode_closed_iff]
  · rw [← and_ne_zero_iff]
    simp [State.attnLow]
  · simp [State.msdo, hk, hp]
  · simp [State.msdo, hk, hp]
  · simp [State.msdo, hk]

/-! ## Presentation and response (R61, R62, R168, R169) -/

/-- A well-formed presentation is whole (R168, log 15). -/
theorem wholePresentation_of_wf {q : Presentation} (h : q.wf = true) : wholePresentation q = true := by
  unfold Presentation.wf at h
  unfold wholePresentation
  cases hrd : q.rd <;> simp_all

/-- A well-formed read brings no data (R168, log 15). -/
theorem data_of_wf {q : Presentation} (h : q.wf = true) : (if q.rd then [] else q.data) = q.data := by
  unfold Presentation.wf at h
  cases hrd : q.rd <;> simp_all

/-- Settles O15: an IDLE port takes the presentation, and a RESPONDING one gives its response. -/
theorem aPresentationAndItsResponse : Obligations.APresentationAndItsResponse := by
  refine ⟨fun p q s hr hw => ⟨fun hs => ?_, fun hs => ?_⟩, fun p s x hr hs hx => ?_⟩
  · simp [exec, execHostPresentation, hs, hr, wholePresentation_of_wf hw, presentedTxn, data_of_wf hw]
  · simp [exec, execHostPresentation, hs]
  · have he : exec (.hostResponse p) s = .next (s.setPort p ⟨.idle, none, some x.response⟩) := by
      simp [exec, execHostResponse, hs, hr, hx]
    rw [he]
    obtain ⟨kind, bothStrobes, addr, len, enables, data, resolution, reason, readData, wasHeld⟩ := x
    cases reason <;> cases readData <;> rfl

end Sys2Proof.Machine
end

section
/-! PROOFS. The part right after reset (log 3, log 4): what it is, and that it has every invariant. -/
namespace Sys2Proof.Machine

open Sys2Proof

/-- The read of copy A, which is in progress right after reset (R88). -/
def firstRead : MemOp := ⟨.anchorReadFirst, 16776960, 20, []⟩

theorem reset_current : State.reset.arb.current = some (.journal, firstRead) := rfl

theorem reset_request (r : Requester) : State.reset.arb.request r = none := by cases r <;> rfl

theorem reset_port (p : Port) : State.reset.port p = ⟨.idle, none, none⟩ := by cases p <;> rfl

/-- Only the Journal Controller has anything outstanding right after reset (R88). -/
theorem reset_outstanding (r : Requester) :
    State.reset.outstanding r = if r = .journal then some firstRead else none := by cases r <;> rfl

theorem reset_arbiterServes : State.reset.arbiterServes := by
  refine ⟨fun r op h => ?_, fun r op h => ?_⟩
  · rw [reset_current] at h
    cases h
    exact ⟨rfl, rfl⟩
  · rw [reset_request] at h
    cases h

theorem reset_portsSound : State.reset.portsSound := by
  constructor <;> exact ⟨⟨fun _ => rfl, fun _ => rfl⟩, nofun⟩

theorem reset_copiesSound : State.reset.copiesSound := ⟨rfl, rfl, rfl, rfl, nofun⟩

theorem reset_holdsSound : State.reset.holdsSound := by
  refine ⟨rfl, ⟨fun _ => .inr rfl, fun _ => ⟨rfl, rfl, rfl⟩⟩, fun p => ⟨fun h => ?_, fun h => ?_⟩⟩
  · rw [reset_port] at h; cases h
  · rw [State.retaking, reset_port] at h; cases h

theorem reset_workSound : State.reset.workSound :=
  ⟨⟨rfl, rfl, rfl, rfl, rfl, ⟨firstRead, rfl, rfl⟩, rfl⟩, rfl, nofun, fun _ _ => rfl⟩

theorem reset_serviceSound : State.reset.serviceSound := by
  refine ⟨fun p => ⟨fun h => ?_, fun _ => ?_, ⟨fun h => ?_, nofun⟩, fun h => ?_⟩, List.nodup_nil, rfl, nofun,
    fun r op _ => reset_request r, nofun⟩
  · rw [reset_port] at h; cases h
  · rw [reset_outstanding]; cases p <;> rfl
  · rw [reset_port] at h; cases h
  · rw [reset_port] at h; cases h

theorem reset_sound : State.reset.sound :=
  ⟨⟨List.Pairwise.nil, nofun⟩, ⟨List.nodup_nil, Nat.zero_le _, nofun⟩, ⟨fun _ => by decide, nofun, fun _ => rfl⟩,
    reset_copiesSound, reset_arbiterServes, reset_portsSound, reset_holdsSound, reset_workSound, reset_serviceSound⟩

theorem reset_geometrySound : State.reset.geometrySound :=
  ⟨⟨rfl, rfl⟩, nofun, nofun, nofun, nofun, nofun, fun _ => ⟨rfl, .inr (.inr ⟨rfl, .inr rfl⟩)⟩⟩

/-- No port carries a transaction right after reset (R119). -/
theorem reset_txn (p : Port) : (State.reset.port p).txn = none := by rw [reset_port]

theorem reset_writesSound : State.reset.writesSound := by
  refine ⟨fun p x h => ?_, fun p x ⟨h, _⟩ => ?_⟩ <;> rw [reset_txn] at h <;> cases h

theorem reset_journalSound : State.reset.journalSound := by
  refine ⟨rfl, nofun, nofun, fun p x w ⟨h, _⟩ => ?_, ⟨nofun, nofun, nofun, nofun⟩, ⟨nofun, fun op h hw => ?_⟩,
    fun _ => rfl, nofun⟩
  · rw [reset_txn] at h; cases h
  · rw [reset_outstanding] at h
    cases h
    cases hw

/-- Settles O60: each invariant, read off the part right after reset. -/
theorem resetIsSound : Obligations.ResetIsSound := by
  refine ⟨reset_sound, fun h => ?_, ⟨rfl, rfl⟩, reset_geometrySound, reset_writesSound, reset_journalSound⟩
  rw [reset_current] at h
  cases h

end Sys2Proof.Machine
end

section
/-! PROOFS. The policy decision of a host port, check by check (R63 to R70, R72, R73). -/
namespace Sys2Proof.Machine

open Sys2Proof

/-! ## The checks (R63) -/

/-- The two malformed forms of a transaction (R64, R170). -/
theorem malformed_iff (x : Txn) : x.malformed = true ↔ x.bothStrobes = true ∨ 8 < x.addr / 4 % 8 + x.len := by
  simp [Txn.malformed]

/-- Check 1a (R64). -/
theorem judge_malformed {s : State} {x : Txn} (h : x.bothStrobes = true ∨ 8 < x.addr / 4 % 8 + x.len) :
    s.judge x = .refuse .malformed := if_pos ((malformed_iff x).2 h)

/-- Check 1b (R64). -/
theorem judge_outOfRange {s : State} {x : Txn} (h : ¬ (x.bothStrobes = true ∨ 8 < x.addr / 4 % 8 + x.len))
    (hr : ¬ x.addr < s.memSize.lines * 64) : s.judge x = .refuse .outOfRange := by
  rw [State.judge, if_neg (by rwa [malformed_iff]), if_pos (by simpa [MemSize.bytes] using hr)]

/-- Check 2 and the read that passes it (R63). -/
theorem judge_inRange {s : State} {x : Txn} (h : ¬ (x.bothStrobes = true ∨ 8 < x.addr / 4 % 8 + x.len))
    (hr : x.addr < s.memSize.lines * 64) :
    s.judge x =
      if s.pathMode = .closed then .refuse .pathClosed
      else if x.kind = .read then .read
      else match s.decoder.resolve (x.addr / 64) with
        | .reserved => .refuse .reservedArea
        | .covered pol w => s.judgeCovered x pol w :=
  judge_form (by simpa using fun hb => h (.inl hb)) (by omega) hr

/-- A write that passes checks 1 to 4 (R63). -/
theorem judge_covered {s : State} {x : Txn} {pol : Policy} {w : Nat}
    (h : ¬ (x.bothStrobes = true ∨ 8 < x.addr / 4 % 8 + x.len)) (hr : x.addr < s.memSize.lines * 64)
    (ho : ¬ (s.jc.state = .recovering ∨ s.jc.state = .aborting ∨ s.jc.state = .formatting)) (hw : x.kind = .write)
    (hd : s.decoder.resolve (x.addr / 64) = .covered pol w) : s.judge x = s.judgeCovered x pol w := by
  rw [judge_inRange h hr, if_neg (by rwa [State.pathMode, pathMode_closed_iff]), if_neg (by simp [hw]), hd]

/-- The path is READ_ONLY in DAMAGED alone (R6). -/
theorem pathMode_readOnly_iff (j : JournalState) : j.pathMode = .readOnly ↔ j = .damaged := by
  cases j <;> simp [JournalState.pathMode]

/-- The path is WRITE_HOLD in COMMITTING and APPLYING (R6). -/
theorem pathMode_writeHold_iff (j : JournalState) : j.pathMode = .writeHold ↔ j = .committing ∨ j = .applying := by
  cases j <;> simp [JournalState.pathMode]

/-- The fence is up while its state is not NORMAL (R152). -/
theorem up_iff (f : Fence) : f.up = true ↔ f.state ≠ .normal := by simp [Fence.up]

/-- Checks 5 to 8 by the journal state and the fence (R63). -/
theorem judgeCovered_eq (s : State) (x : Txn) (pol : Policy) (w : Nat) :
    s.judgeCovered x pol w =
      if pol = .guarded then .refuse .guarded
      else if s.jc.state = .damaged then .refuse .damaged
      else if s.fence.state ≠ .normal ∧ s.fence.action = .refuse then .refuse .fenceRefused
      else if (s.jc.state = .committing ∨ s.jc.state = .applying) ∨ (s.fence.state ≠ .normal ∧ s.fence.action = .hold)
        then .hold
      else s.judgeOpen x pol w := by
  simp only [State.judgeCovered, State.pathMode, pathMode_readOnly_iff, pathMode_writeHold_iff, up_iff]

/-! ## What the decision does -/

/-- The end of an event leaves everything of a port's request but the arbiter and the free values (R174). -/
theorem settle_portRequest (b : Arbiter) (s : State) (p q : Port) (y : HostPort) (op : MemOp) :
    ((s.setPort p y).request (portRequester q) op).settle b
      = ({ s with
          arb := (((s.setPort p y).request (portRequester q) op).settle b).arb
          free := (((s.setPort p y).request (portRequester q) op).settle b).free } : State).setPort p y := by
  conv_lhs => rw [settle_frame]
  cases p <;> rfl

/-- What is outstanding after a requester that had none has requested (R174). -/
theorem nowHas_settle_request {s u : State} {b : Arbiter} {r : Requester} {op : MemOp} (h : u.arb = s.arb) :
    s.nowHas ((u.request r op).settle b) r (some op) := nowHas_settle (nowHas_request h)

/-- Settles O16: the first check that applies, and the refusal all seven share. -/
theorem thePolicyDecisionRefuses : Obligations.ThePolicyDecisionRefuses := by
  intro p s x why hr ha hs hx hcase
  have hj : s.judge x = .refuse why ∧ why ≠ .journalFull := by
    obtain ⟨hm, rfl⟩ | ⟨hm, hi, rfl⟩ | ⟨hm, hi, hc, rfl⟩ | ⟨hm, hi, hc, hw, hd, rfl⟩ | ⟨hm, hi, hc, hw, ⟨w, hd⟩, rfl⟩
      | ⟨hm, hi, hw, ⟨pol, w, hd, hg⟩, hst, rfl⟩ | ⟨hm, hi, hc, hw, ⟨pol, w, hd, hg⟩, hst, hf, hfa, rfl⟩ := hcase
    · exact ⟨judge_malformed hm, nofun⟩
    · exact ⟨judge_outOfRange hm hi, nofun⟩
    · exact ⟨by rw [judge_inRange hm hi, if_pos (by rwa [State.pathMode, pathMode_closed_iff])], nofun⟩
    · refine ⟨?_, nofun⟩
      rw [judge_inRange hm hi, if_neg (by rwa [State.pathMode, pathMode_closed_iff]), if_neg (by simp [hw]), hd]
    · exact ⟨by rw [judge_covered hm hi hc hw hd, judgeCovered_eq, if_pos rfl], nofun⟩
    · exact ⟨by rw [judge_covered hm hi (by simp [hst]) hw hd, judgeCovered_eq, if_neg hg, if_pos hst], nofun⟩
    · refine ⟨?_, nofun⟩
      rw [judge_covered hm hi hc hw hd, judgeCovered_eq, if_neg hg, if_neg hst, if_pos ⟨hf, hfa⟩]
  obtain ⟨hj, hfull⟩ := hj
  have he : exec (.policyDecision p) s = .next (State.settle s.arb (s.enact p x (s.judge x))) :=
    exec_policyDecision hr hs hx
  have hrefuse := refuse_eq s p x why
  rw [if_neg hfull] at hrefuse
  rw [he, hj, settle_unchanged ha (by simp [State.enact])]
  exact congrArg Host.Outcome.next hrefuse

/-- Settles O17: a read in range passes every check but the path's, and is requested. -/
theorem thePolicyDecisionPerformsReads : Obligations.ThePolicyDecisionPerformsReads := by
  intro p s x hr hreq hs hx hb hl hi h1 h2 h3 hk
  have hj : s.judge x = .read := by
    rw [judge_form hb hl hi, if_neg (by simp [State.pathMode, pathMode_closed_iff, h1, h2, h3]), if_pos hk]
  refine ⟨_, (exec_policyDecision hr hs hx : exec (.policyDecision p) s = _), ?_, ?_⟩ <;> rw [hj]
  · exact settle_portRequest _ _ _ _ _ _
  · exact nowHas_settle_request (by simp)

/-- Settles O18: a holding cause lets the write stand, and nothing else happens. -/
theorem thePolicyDecisionHolds : Obligations.ThePolicyDecisionHolds := by
  intro p s x pol w hr ha hs hx hb hl hi hk hd hg hcase
  have hj : s.judge x = .hold := by
    rw [judge_covered (by simp [hb, hl]) hi (by rcases hcase with ⟨h | h, -⟩ | ⟨h | h, -⟩ <;> simp [h]) hk hd,
      judgeCovered_eq, if_neg hg, if_neg (by rcases hcase with ⟨h | h, -⟩ | ⟨h | h, -⟩ <;> simp [h]),
      if_neg (by rcases hcase with ⟨-, h | h⟩ | ⟨-, -, h⟩ <;> simp [h]), if_pos]
    rcases hcase with ⟨h, -⟩ | ⟨-, h⟩
    · exact .inl h
    · exact .inr h
  have he : exec (.policyDecision p) s = .next (State.settle s.arb (s.enact p x (s.judge x))) :=
    exec_policyDecision hr hs hx
  rw [he, hj, settle_unchanged ha (by simp [State.enact])]
  rfl

/-- Every byte enable of every word is deasserted (R66). -/
theorem noEnables_iff (x : Txn) : x.noEnables = true ↔ ∀ be ∈ x.enables, be = 0 := by
  simp [Txn.noEnables]

/-- A hit is a tracked line (R50). -/
theorem hit_iff (f : Filter) (l : Nat) : f.hit l = true ↔ l ∈ f.lines := decide_eq_true_iff

/-- Settles O19: checks 9 to 11 and what each outcome does. -/
theorem thePolicyDecisionTakesWrites : Obligations.ThePolicyDecisionTakesWrites := by
  intro p s x pol w hr hreq hs hx hb hl hi hk hd hg hst hf
  have hj : s.judge x = s.judgeOpen x pol w := by
    rw [judge_covered (by simp [hb, hl]) hi (by rcases hst with h | h <;> simp [h]) hk hd, judgeCovered_eq, if_neg hg,
      if_neg (by rcases hst with h | h <;> simp [h]), if_neg (by simp [hf]),
      if_neg (by rcases hst with h | h <;> simp [h, hf])]
  have he : exec (.policyDecision p) s = .next (State.settle s.arb (s.enact p x (s.judge x))) :=
    exec_policyDecision hr hs hx
  rw [he, hj, State.judgeOpen]
  refine ⟨fun hn ha => ?_, fun hn hp => ?_, fun hn hp hline ha => ?_⟩
  · rw [if_pos ((noEnables_iff x).2 hn), settle_unchanged ha (by simp [State.enact])]
    rfl
  · have hn' : ¬ x.noEnables = true := by simpa [noEnables_iff] using hn
    rw [if_neg hn', if_pos (hp.imp_right (hit_iff s.filter x.line).2)]
    exact ⟨_, rfl, settle_portRequest _ _ _ _ _ _, nowHas_settle_request (by simp)⟩
  · have hn' : ¬ x.noEnables = true := by simpa [noEnables_iff] using hn
    rw [if_neg hn', if_neg (by simpa [hit_iff, hp, Txn.line] using hline),
      settle_unchanged ha (by simp [State.enact])]
    cases p <;> rfl

end Sys2Proof.Machine
end

section
/-! PROOFS. The completions of a host port and the events of the Capture Engine, with no drain waiting (R27 to R31, R51,
R52, R65, R68, R72, R75 to R79). -/
namespace Sys2Proof.Machine

open Sys2Proof

/-! ## What the rows do where they can be taken -/

theorem exec_hostReadComplete {s : State} {p : Port} {op : MemOp} (h : s.inPort (portRequester p) .hostRead op)
    (merr : Bool) : exec (.hostReadComplete p merr) s
      = .next (((s.release.hostReadDone p op merr).portResponded p).settle s.arb) := by
  simp [exec, execHostReadComplete, inPort_inProgress h, State.occur]

theorem exec_hostWriteComplete {s : State} {p : Port} {op : MemOp} (h : s.inPort (portRequester p) .hostWrite op) :
    exec (.hostWriteComplete p) s
      = .next ((((s.release.storeCells op).hostWriteDone p).portResponded p).settle s.arb) := by
  simp [exec, execHostWriteComplete, inPort_inProgress h, State.occur]

theorem exec_captureTake {s : State} {e : Entry} {rest : List Entry} (hr : s.inReset = false)
    (h : s.engine = ⟨e :: rest, none⟩) : exec .captureTake s = .next ((s.takeEntry e rest).settle s.arb) := by
  simp [exec, execCaptureTake, State.captureTaken, State.take, hr, h]

theorem exec_lineReadComplete {s : State} {op : MemOp} {e : Entry} {q : List Entry} (h : s.inPort .capture .lineRead op)
    (he : s.engine = ⟨q, some ⟨e, .reading⟩⟩) (merr : Bool) :
    exec (.lineReadComplete merr) s = .next ((s.release.lineReadDone e op merr).settle s.arb) := by
  simp [exec, execLineReadComplete, inPort_inProgress h, he, State.occur]

theorem exec_slotReservation {s : State} {e : Entry} {q : List Entry} {image : List Byte} (hr : s.inReset = false)
    (h : s.engine = ⟨q, some ⟨e, .reserving image⟩⟩) :
    exec .slotReservation s = .next ((s.reserve e image).settle s.arb) := by
  simp [exec, execSlotReservation, State.slotReserved, State.take, hr, h]

theorem exec_recordWriteComplete {s : State} {op : MemOp} {e : Entry} {q : List Entry} {k : Nat}
    (h : s.inPort .capture .recordWrite op) (he : s.engine = ⟨q, some ⟨e, .writing k⟩⟩) :
    exec .recordWriteComplete s
      = .next ((((s.release.storeCells op).setPhase e (.inserting k)).countRecord).settle s.arb) := by
  simp [exec, execRecordWriteComplete, inPort_inProgress h, he, State.occur]

theorem exec_filterInsertion {s : State} {e : Entry} {q : List Entry} {k : Nat} (hr : s.inReset = false)
    (h : s.engine = ⟨q, some ⟨e, .inserting k⟩⟩) : exec .filterInsertion s
      = .next ((((s.setFilter (s.filter.take e.line)).setPhase e .captured).handBack e.port).settle s.arb) := by
  simp [exec, execFilterInsertion, State.lineInserted, State.take, hr, h]

/-- The end of an event leaves everything but the arbiter and the free values; here with the memory named as it comes
to be (R174). -/
theorem settle_stored (b : Arbiter) (u : State) :
    u.settle b = { u with mem := (u.settle b).mem, arb := (u.settle b).arb, free := (u.settle b).free } := by
  conv_lhs => rw [settle_frame]
  simp

/-! ## Host reads (R65) -/

/-- A byte of a read, by its place (R172). -/
theorem Mem.readBytes_getD (m : Mem) {a n i : Nat} (h : i < n) (d : Byte) :
    (m.readBytes a n).getD i d = m.read ((a + i) % addressSpace) := by
  rw [List.getD_eq_getElem?_getD, Mem.readBytes_get m a n i h]; rfl

/-- Settles O20: the words of a read are the bytes of memory, lane by lane; MERR makes it a refusal. -/
theorem aHostReadCompletes : Obligations.AHostReadCompletes := by
  intro p s op x h hx hd
  have hx' : (s.release.port p).txn = some x := hx
  have released {u : State} (hu : u.arb = s.release.arb) : s.nowHas (u.settle s.arb) (portRequester p) none :=
    nowHas_settle (nowHas_arb (inPort_release h) hu)
  constructor
  · have hdone : (s.release.hostReadDone p op false).portResponded p = s.release.setPort p
        { s.port p with
          stage := .responding, txn := some { x with readData := some (bytesToWords (s.bytesOf op)) } } := by
      rw [portResponded_outside (by simpa using hd), State.hostReadDone, hx']
      rfl
    refine ⟨_, bytesToWords (s.bytesOf op), exec_hostReadComplete h false, ?_, ?_, ?_, fun j n hj hn => ?_⟩
    · rw [hdone]
      conv_lhs => rw [settle_frame]
      cases p <;> rfl
    · exact released (by rw [hdone]; simp)
    · exact bytesToWords_length _ _ (by simp [State.bytesOf])
    · rw [bytesToWords_lane op.words _ (by simp [State.bytesOf]) j n hj hn, State.bytesOf,
        Mem.readBytes_getD _ (by omega), Nat.add_assoc]
  · have hdone : (s.release.hostReadDone p op true).portResponded p = s.release.refuse p x .memoryReadError := by
      rw [portResponded_outside (by simpa using hd), State.hostReadDone, hx']
      rfl
    refine ⟨_, exec_hostReadComplete h true, released ?_, ?_⟩
    · rw [hdone]; simp
    · rw [hdone, refuse_eq]
      conv_lhs => rw [settle_frame]
      cases p <;> rfl

/-! ## Host writes (R68) -/

/-- The cell of lane k of word j of a host write (R68, R172, log 6). -/
theorem hostCells_get : ∀ (es : List (BitVec 4)) (ds : List Word) (j k : Nat), j < es.length → j < ds.length → k < 4 →
    (hostCells es ds)[4 * j + k]?
      = some (if (es.getD j 0).getLsbD k then some ((ds.getD j 0).extractLsb' (8 * k) 8) else none)
  | be :: es, w :: ds, 0, k, _, _, hk => by
    have : k = 0 ∨ k = 1 ∨ k = 2 ∨ k = 3 := by omega
    rcases this with rfl | rfl | rfl | rfl <;> simp [hostCells, enabledWord, wordBytes]
  | be :: es, w :: ds, j + 1, k, he, hd, hk => by
    have ih := hostCells_get es ds j k (by simpa using he) (by simpa using hd) hk
    have hl : (enabledWord be w).length = 4 := by simp [enabledWord, wordBytes]
    rw [hostCells, List.getElem?_append_right (by omega), hl, show 4 * (j + 1) + k - 4 = 4 * j + k by omega, ih]
    simp

/-- Settles O21: the cells of the write are the enabled lanes of its words. -/
theorem aHostWriteStoresItsEnabledBytes : Obligations.AHostWriteStoresItsEnabledBytes := by
  intro p s x h hx hd he hdata hlen
  have hcells : (hostCells x.enables x.data).length = 4 * x.len := by rw [hostCells_length]; omega
  have hfit : (hostCells x.enables x.data).length ≤ addressSpace := by simp only [addressSpace]; omega
  have hx' (op : MemOp) : ((s.release.storeCells op).port p).txn = some x := hx
  have hdone (op : MemOp) : (((s.release.storeCells op).hostWriteDone p).portResponded p)
      = ((s.release.storeCells op).setPort p { s.port p with stage := .responding }).setEngine
          (s.engine.hostWriteDone p) := by
    rw [portResponded_outside (by simpa using hd), State.hostWriteDone, hx' op]
    rfl
  have written (E : Engine) (hE : E = s.engine.hostWriteDone p) (b : Arbiter) (op : MemOp) :
      let t := (((s.release.storeCells op).setPort p { s.port p with stage := .responding }).setEngine
        (s.engine.hostWriteDone p)).settle b
      t = ({ s with mem := t.mem, arb := t.arb, free := t.free, engine := E } : State).setPort p
        { s.port p with stage := .responding } := by
    subst hE
    dsimp only
    conv_lhs => rw [settle_stored]
    cases p <;> rfl
  refine ⟨_, exec_hostWriteComplete h, fun j n hj hn => ?_, fun a ha => ?_, ?_, ?_⟩
  · have hget := hostCells_get x.enables x.data j n (by omega) (by omega) hn
    rw [hdone, Nat.add_assoc]
    simp only [State.settle_untouched, State.setEngine_mem, State.setPort_untouched, storeCells_mem,
      State.release_untouched]
    split
    · next hb =>
      rw [if_pos hb] at hget
      exact Mem.read_writeCells _ _ _ hfit _ _ hget
    · next hb =>
      rw [if_neg hb] at hget
      exact Mem.read_writeCells_disabled _ _ _ hfit _ hget
  · rw [hdone]
    simp only [State.settle_untouched, State.setEngine_mem, State.setPort_untouched, storeCells_mem,
      State.release_untouched]
    refine Mem.read_writeCells_other _ _ _ _ fun i b hi => ha i ?_
    have hlt := (List.getElem?_eq_some_iff.1 hi).1
    rwa [hcells] at hlt
  · rw [hdone]
    refine written _ ?_ _ _
    unfold Engine.hostWriteDone
    rcases s.engine.current with _ | ⟨y, ph⟩
    · rfl
    · cases ph <;> simp
  · exact nowHas_settle (nowHas_arb (inPort_release h) (by rw [hdone]; simp))

/-! ## The Capture Engine (R51, R76 to R79) -/

/-- A hand-back requests the memory write of its port's transaction (R68). -/
theorem handBack_eq {s : State} {p : Port} {x : Txn} (hx : (s.port p).txn = some x) :
    s.handBack p = (s.setPort p { s.port p with stage := .inMemory }).request (portRequester p) x.writeOp := by
  simp [State.handBack, hx]

/-- Settles O22: the second lookup at the take, and what a hit and a miss request. -/
theorem theEngineTakesTheHeadOfTheQueue : Obligations.TheEngineTakesTheHeadOfTheQueue := by
  intro s e rest x hr heng hx hreq hcap
  refine ⟨fun hl => ?_, fun hl => ?_⟩ <;> refine ⟨_, exec_captureTake hr heng, ?_⟩
  · have htake : s.takeEntry e rest = ((s.setEngine ⟨rest, some ⟨e, .hit⟩⟩).setPort e.port
        { s.port e.port with stage := .inMemory }).request (portRequester e.port) x.writeOp := by
      rw [State.takeEntry, if_pos ((hit_iff _ _).2 hl), handBack_eq (by exact hx)]
      rfl
    rw [htake]
    exact ⟨settle_portRequest _ (s.setEngine ⟨rest, some ⟨e, .hit⟩⟩) _ _ _ _, nowHas_settle_request (by simp)⟩
  · rw [State.takeEntry, if_neg (by rwa [hit_iff])]
    refine ⟨?_, nowHas_settle_request rfl⟩
    conv_lhs => rw [settle_frame]
    rfl

/-- A refusal by the Capture Engine, outside a drain (R77, R78). -/
theorem refuseEntry_eq {s : State} {e : Entry} {q : List Entry} {ph : EnginePhase} {x : Txn} {why : Reason}
    (heng : s.engine = ⟨q, some ⟨e, ph⟩⟩) (hx : (s.port e.port).txn = some x) (hd : e.port ∉ s.jc.drain) :
    s.refuseEntry e why = (s.setEngine ⟨q, none⟩).refuse e.port x why := by
  have hx' : ((s.setEngine { s.engine with current := none }).port e.port).txn = some x := hx
  rw [State.refuseEntry, hx', heng]
  exact portResponded_outside (by simpa using hd)

/-- Settles O23: the line's bytes go to the engine, or MERR refuses its write. -/
theorem aLineReadCompletes : Obligations.ALineReadCompletes := by
  intro s op e q x h heng
  refine ⟨⟨_, exec_lineReadComplete h heng false, ?_, ?_⟩, fun hx hk hd => ⟨_, exec_lineReadComplete h heng true, ?_⟩⟩
  · conv_lhs => rw [settle_frame]
    simp only [State.lineReadDone, State.setPhase, State.release_untouched, heng]
    rfl
  · exact nowHas_settle (nowHas_arb (inPort_release h) rfl)
  · have hdone : s.release.lineReadDone e op true = (s.release.setEngine ⟨q, none⟩).refuse e.port x .captureFailed :=
      refuseEntry_eq (s := s.release) heng hx hd
    rw [hdone, refuse_eq]
    refine ⟨nowHas_settle (nowHas_arb (inPort_release h) (by simp)), ?_⟩
    conv_lhs => rw [settle_frame]
    simp only [hk]
    obtain ⟨p, line, window⟩ := e
    cases p <;> rfl

/-- A slot is 80 bytes (R19, R21). -/
theorem captureRecord_length {window index line : Nat} {epoch : Word} {image : List Byte} (h : image.length = 64) :
    (captureRecord window index line epoch image).length = 80 := by
  simp [captureRecord, slotBytes, slotHeader, h]

/-- Settles O24: slot fill is reserved below the count, and its record requested; at the count the write is refused. -/
theorem aReservationTakesSlotFillOrFails : Obligations.AReservationTakesSlotFillOrFails := by
  intro s e q image g x hr heng hg hreq himg
  refine ⟨fun hf => ⟨_, exec_slotReservation hr heng, ?_⟩, fun hf ha hx hk hd => ?_⟩
  · have hres : s.reserve e image = (s.setPhase e (.writing s.jc.fill)).request .capture
        ⟨.recordWrite, slotAt g s.jc.fill, 20, (captureRecord e.window s.jc.fill e.line s.jc.epoch image).map some⟩ := by
      rw [State.reserve, activeGeom_of hg, if_pos hf]
      simp only [MemOp.writes, captureRecord_length himg]
      rfl
    rw [hres]
    refine ⟨?_, nowHas_settle_request rfl⟩
    conv_lhs => rw [settle_frame]
    simp only [State.setPhase, heng]
    rfl
  · have hres : s.reserve e image = (s.setEngine ⟨q, none⟩).refuse e.port x .journalFull := by
      rw [State.reserve, activeGeom_of hg, if_neg (by omega), refuseEntry_eq heng hx hd]
    rw [exec_slotReservation hr heng, hres, settle_unchanged ha (by simp), refuse_eq]
    simp only [hk]
    obtain ⟨p, line, window⟩ := e
    cases p <;> rfl

/-- All that the count of a record does (R28, R31). -/
theorem countRecord_eq (s : State) : s.countRecord = { s with
    jc := { s.jc with fill := s.jc.fill + 1 }
    attn := { s.attn with
      pending := if s.store.active.alert ≠ 0 ∧ s.jc.fill + 1 = s.store.active.alert
        then s.attn.pending ||| 4 else s.attn.pending } } := by
  unfold State.countRecord
  dsimp only
  split <;> rfl

/-- Settles O25: the record is stored and counted. -/
theorem aCompletedRecordIsCounted : Obligations.ACompletedRecordIsCounted := by
  intro s op e q k h hl heng
  refine ⟨_, exec_recordWriteComplete h heng, ?_, ?_, nowHas_settle (nowHas_arb (inPort_release h) (by simp))⟩
  · have : op.cells.length ≤ addressSpace := by simp only [addressSpace]; omega
    simpa using Mem.storedBy_writeCells s.mem op this
  · rw [countRecord_eq]
    conv_lhs => rw [settle_stored]
    simp only [State.setPhase, State.storeCells, State.setMem_engine, State.release_untouched, heng]
    rfl

/-- Settles O26: the three outcomes of the insertion, and the hand-back they share. -/
theorem theFilterTakesAnInsertion : Obligations.TheFilterTakesAnInsertion := by
  intro s e q k x hr heng hx hreq
  have hback : ((s.setFilter (s.filter.take e.line)).setPhase e .captured).handBack e.port
      = ((((s.setFilter (s.filter.take e.line)).setEngine ⟨q, some ⟨e, .captured⟩⟩).setPort e.port
          { s.port e.port with stage := .inMemory }).request (portRequester e.port) x.writeOp) := by
    rw [handBack_eq (by exact hx), State.setPhase, State.setFilter_engine, heng]
    rfl
  refine ⟨_, exec_filterInsertion hr heng, ?_⟩
  rw [hback]
  refine ⟨?_, fun hl => ?_, fun hl hn => ?_, fun hl hn => ?_, nowHas_settle_request (by simp)⟩
  · conv_lhs => rw [settle_portRequest _ ((s.setFilter (s.filter.take e.line)).setEngine ⟨q, some ⟨e, .captured⟩⟩)]
    simp
  · simp [Filter.take, hl]
  · have : s.filter.take e.line = { s.filter with lines := e.line :: s.filter.lines } := by
      simp [Filter.take, hl, filterCapacity, hn]
    simp [this]
  · simp [Filter.take, hl, filterCapacity, Nat.not_lt.2 hn]

end Sys2Proof.Machine
end

section
/-! PROOFS. The drain: what ends it, and the operation's own work that begins with it (R82). -/
namespace Sys2Proof.Machine

open Sys2Proof

/-- The part with no drain, all else as it is. -/
def State.undrained (s : State) : State := s.setJc { s.jc with drain := [] }

/-- What begins when the drain is complete rests on what is outstanding, not on who is granted (R174). -/
theorem beginsWork_of_arb {v t : State} {g : Geometry} {arb : Arbiter} {free : Nat}
    (h : ∀ r, arb.outstanding r = v.arb.outstanding r) (hb : v.beginsWork t g) :
    ({ v with arb := arb, free := free } : State).beginsWork t g := by
  unfold State.beginsWork State.advances State.beginsAnchor State.nowHas State.outstanding at *
  simp only [h]
  exact hb

theorem beginsWork_settle {v t : State} {g : Geometry} {b : Arbiter} (hb : v.beginsWork t g) :
    (v.settle b).beginsWork t g := by
  rw [settle_frame]
  exact beginsWork_of_arb (fun r => settle_outstanding b v r) hb

/-- A response taken from a drain of two, and from a drain of one, beside the same response outside a drain (R82). -/
theorem drain_loses {s v : State} {b : Arbiter} {p : Port} {g : Geometry} (hjc : v.jc = s.jc) (hstore : v.store = s.store)
    (hg : s.jc.geom = some g ∨ s.jc.op = .format) (hw : s.eightWindows) :
    (∀ q, q ≠ p → (s.jc.drain = [p, q] ∨ s.jc.drain = [q, p]) →
      ∃ t, (v.portResponded p).settle b = t
        ∧ t = { v.undrained.settle b with
            jc := { (v.undrained.settle b).jc with drain := [q] }, arb := t.arb, free := t.free }
        ∧ ∀ r, t.outstanding r = (v.undrained.settle b).outstanding r)
    ∧ (s.jc.drain = [p] → ∃ t, (v.portResponded p).settle b = t ∧ (v.undrained.settle b).beginsWork t g) := by
  refine ⟨fun q hq hd => ⟨_, rfl, ?_⟩, fun hd => ⟨_, rfl, ?_⟩⟩
  · have hleft : v.portResponded p = v.setJc { v.jc with drain := [q] } := by
      have hmem : p ∈ v.jc.drain := by rw [hjc]; rcases hd with h | h <;> simp [h]
      have hrest : v.jc.drain.filter (fun r => r ≠ p) = [q] := by rw [hjc]; rcases hd with h | h <;> simp [h, hq]
      rw [State.portResponded, if_pos hmem]
      dsimp only
      rw [hrest, if_neg (by simp)]
    rw [hleft]
    refine ⟨?_, fun r => by simp only [settle_outstanding]; rfl⟩
    conv_lhs => rw [settle_frame]
    simp only [State.settle_untouched]
    rfl
  · have hdone : v.portResponded p = v.undrained.drainDone := by
      have hmem : p ∈ v.jc.drain := by rw [hjc, hd]; simp
      rw [State.portResponded, if_pos hmem]
      dsimp only
      rw [hjc, hd, if_pos (by simp), ← hjc]
      simp [State.undrained]
    rw [hdone]
    refine beginsWork_settle (drainDone_begins v.undrained g ?_ ?_ b)
    · simpa [State.undrained, hjc] using hg
    · simpa [State.undrained, State.eightWindows, hstore] using hw

/-- A refusal is the same with a drain and without one. -/
theorem undrained_refuse (s : State) (p : Port) (x : Txn) (why : Reason) :
    s.undrained.refuse p x why = (s.refuse p x why).undrained := by
  rw [refuse_eq, refuse_eq]
  cases p <;> rfl

/-- A host read's end is the same with a drain and without one. -/
theorem undrained_hostReadDone (s : State) (p : Port) (op : MemOp) (merr : Bool) :
    s.undrained.hostReadDone p op merr = (s.hostReadDone p op merr).undrained := by
  unfold State.hostReadDone
  have hport : s.undrained.port p = s.port p := by cases p <;> rfl
  rw [hport]
  cases hx : (s.port p).txn with
  | none => rfl
  | some x =>
    cases merr with
    | true => exact undrained_refuse s p x _
    | false => cases p <;> rfl

/-- A host write's end is the same with a drain and without one. -/
theorem undrained_hostWriteDone (s : State) (p : Port) :
    s.undrained.hostWriteDone p = (s.hostWriteDone p).undrained := by
  unfold State.hostWriteDone
  have hport : s.undrained.port p = s.port p := by cases p <;> rfl
  rw [hport]
  cases (s.port p).txn with
  | none => rfl
  | some x => cases p <;> rfl

/-- Outside a drain a response is no concern of the operation's (R82). -/
theorem portResponded_undrained (v : State) (p : Port) : v.undrained.portResponded p = v.undrained :=
  portResponded_outside (by simp [State.undrained])

/-- A refusal by the Capture Engine, as the end of a transaction (R77, R78, R82). -/
theorem refuseEntry_responded {s : State} {e : Entry} {q : List Entry} {ph : EnginePhase} {x : Txn} {why : Reason}
    (heng : s.engine = ⟨q, some ⟨e, ph⟩⟩) (hx : (s.port e.port).txn = some x) :
    s.refuseEntry e why = ((s.setEngine ⟨q, none⟩).refuse e.port x why).portResponded e.port := by
  have hx' : ((s.setEngine { s.engine with current := none }).port e.port).txn = some x := hx
  rw [State.refuseEntry, hx', heng]

/-- The ports are the same with a drain and without one. -/
theorem undrained_port (s : State) (p : Port) : s.undrained.port p = s.port p := by cases p <;> rfl

/-- A refusal by the Capture Engine is the same with a drain and without one, but for what the drain loses. -/
theorem undrained_refuseEntry {s : State} {e : Entry} {q : List Entry} {ph : EnginePhase} {x : Txn} {why : Reason}
    (heng : s.engine = ⟨q, some ⟨e, ph⟩⟩) (hx : (s.port e.port).txn = some x) :
    s.undrained.refuseEntry e why = ((s.setEngine ⟨q, none⟩).refuse e.port x why).undrained := by
  rw [refuseEntry_responded (s := s.undrained) heng (by rwa [undrained_port]),
    show s.undrained.setEngine ⟨q, none⟩ = (s.setEngine ⟨q, none⟩).undrained from rfl, undrained_refuse,
    portResponded_undrained]

/-- A reservation at the slot count is refused (R29). -/
theorem reserve_full {s : State} {e : Entry} {image : List Byte} {g : Geometry} (hf : g.count ≤ s.jc.fill)
    (hg : s.jc.geom = some g ∨ s.jc.geom = none) : s.reserve e image = s.refuseEntry e .journalFull := by
  refine if_neg ?_
  obtain hg | hg := hg
  · rw [activeGeom_of hg]; omega
  · simp [State.activeGeom, hg]

/-- Each of the five ends of a transaction is an effect on its port and its engine, and then the drain's loss. -/
theorem exec_responds {c : Instr} {p : Port} {op : MemOp} {x : Txn} {s : State} {g : Geometry}
    (hx : (s.port p).txn = some x)
    (hc : (c = .hostWriteComplete p ∧ s.inPort (portRequester p) .hostWrite op)
      ∨ (c = .hostReadComplete p false ∧ s.inPort (portRequester p) .hostRead op)
      ∨ (c = .hostReadComplete p true ∧ s.inPort (portRequester p) .hostRead op)
      ∨ (∃ e q, c = .lineReadComplete true ∧ s.inPort .capture .lineRead op ∧ e.port = p
          ∧ s.engine = ⟨q, some ⟨e, .reading⟩⟩)
      ∨ (∃ e q image, c = .slotReservation ∧ s.inReset = false ∧ e.port = p
          ∧ s.engine = ⟨q, some ⟨e, .reserving image⟩⟩ ∧ g.count ≤ s.jc.fill))
    (hg : s.jc.geom = some g ∨ (s.jc.geom = none ∧ s.jc.op = .format)) :
    ∃ v : State, v.jc = s.jc ∧ v.store = s.store ∧ exec c s = .next ((v.portResponded p).settle s.arb)
      ∧ exec c s.undrained = .next (v.undrained.settle s.arb) := by
  obtain ⟨rfl, h⟩ | ⟨rfl, h⟩ | ⟨rfl, h⟩ | ⟨e, q, rfl, h, rfl, heng⟩ | ⟨e, q, image, rfl, hr, rfl, heng, hf⟩ := hc
  · refine ⟨(s.release.storeCells op).hostWriteDone p, by simp, by simp, exec_hostWriteComplete h, ?_⟩
    rw [exec_hostWriteComplete (s := s.undrained) h]
    have : (s.undrained.release.storeCells op).hostWriteDone p
        = ((s.release.storeCells op).hostWriteDone p).undrained := undrained_hostWriteDone (s.release.storeCells op) p
    rw [this, portResponded_undrained]
    rfl
  · refine ⟨s.release.hostReadDone p op false, by simp, by simp, exec_hostReadComplete h false, ?_⟩
    rw [exec_hostReadComplete (s := s.undrained) h]
    have : s.undrained.release.hostReadDone p op false = (s.release.hostReadDone p op false).undrained :=
      undrained_hostReadDone s.release p op false
    rw [this, portResponded_undrained]
    rfl
  · refine ⟨s.release.hostReadDone p op true, by simp, by simp, exec_hostReadComplete h true, ?_⟩
    rw [exec_hostReadComplete (s := s.undrained) h]
    have : s.undrained.release.hostReadDone p op true = (s.release.hostReadDone p op true).undrained :=
      undrained_hostReadDone s.release p op true
    rw [this, portResponded_undrained]
    rfl
  · refine ⟨(s.release.setEngine ⟨q, none⟩).refuse e.port x .captureFailed, by simp, by simp, ?_, ?_⟩
    · rw [exec_lineReadComplete h heng]
      exact congrArg _ (congrArg _ (refuseEntry_responded (s := s.release) heng hx))
    · rw [exec_lineReadComplete (s := s.undrained) h heng]
      exact congrArg _ (congrArg _ (undrained_refuseEntry (s := s.release) heng hx))
  · have hg' : s.jc.geom = some g ∨ s.jc.geom = none := hg.imp_right fun h => h.1
    refine ⟨(s.setEngine ⟨q, none⟩).refuse e.port x .journalFull, by simp, by simp, ?_, ?_⟩
    · rw [exec_slotReservation hr heng, reserve_full hf hg', refuseEntry_responded heng hx]
    · rw [exec_slotReservation (s := s.undrained) hr heng, reserve_full (s := s.undrained) hf hg',
        undrained_refuseEntry heng hx]
      rfl

/-- Settles O31: the ends of a transaction differ in nothing but what the drain loses. -/
theorem theDrainEndsWithTheLastResponse : Obligations.TheDrainEndsWithTheLastResponse := by
  intro c p op x s u g hx hc hg hw hu
  obtain ⟨v, hjc, hstore, he, hu'⟩ := exec_responds hx hc hg
  obtain rfl : v.undrained.settle s.arb = u := by
    have := hu'.symm.trans hu
    cases this
    rfl
  rw [he]
  obtain ⟨h2, h1⟩ := drain_loses (b := s.arb) (p := p) hjc hstore (hg.imp_right fun h => h.2) hw
  refine ⟨fun q hq hd => ?_, fun hd => ?_⟩
  · obtain ⟨t, ht, h⟩ := h2 q hq hd
    exact ⟨t, congrArg _ ht, h⟩
  · obtain ⟨t, ht, h⟩ := h1 hd
    exact ⟨t, congrArg _ ht, h⟩

end Sys2Proof.Machine
end

section
/-! PROOFS. The operation commands that pass their checks: what their acceptance does with something to drain, with
nothing to drain, and in DAMAGED (R16, R17, R82, R99, R104, R108, R110, R141, R144). -/
namespace Sys2Proof.Machine

open Sys2Proof

/-- The part as an acceptance leaves it before any work: frame answered, journal state and operation set, the step
DRAINING over the ports `d` (R17, R82). -/
def State.drains (s : State) (code : Byte) (f : FrameTail) (st : JournalState) (o : LongOp) (d : List Port) : State :=
  { s with
    frame := answered code f .accepted []
    jc := { s.jc with state := st, op := o, step := some .draining, drain := d } }

/-- The four acceptances outside DAMAGED (R16, R17). -/
def State.acceptable (s : State) (c : Instr) (code : Byte) (st : JournalState) (o : LongOp) (f : FrameTail) : Prop :=
  (c = .commit f ∧ code = 0x10 ∧ st = .committing ∧ o = .commit ∧ s.jc.state = .active)
    ∨ (c = .abort f ∧ code = 0x11 ∧ st = .aborting ∧ o = .abort ∧ s.jc.state = .active)
    ∨ (c = .format f ∧ code = 0x12 ∧ st = .formatting ∧ o = .format ∧ s.store.staging = .ready
        ∧ (s.jc.state = .unformatted ∨ (s.jc.state = .active ∧ s.jc.fill = 0)))
    ∨ (c = .apply f ∧ code = 0x13 ∧ st = .applying ∧ o = .apply ∧ s.jc.state = .active
        ∧ s.store.staging = .ready ∧ s.jc.geom = some s.store.stagedGeom)

/-- The acceptance of an operation command, which answers ACCEPTED (R17, R156). -/
theorem dispatch_accepts {code : Byte} {f : FrameTail} {body : State → Reply × State} {s u : State}
    (h : s.takesBytes) (hn : f.args = []) (hg : goodCrc code f = true)
    (hb : body s = (.bare .accepted, u.finishRetake)) (hr : u.noneRetaking) :
    dispatch code f (lengthIs f 0) body s = .next ((u.setFrame (answered code f .accepted [])).settle s.arb) := by
  rw [dispatch_taken h]
  simp only [State.occur, dispatchResult, crcMatches_eq, hg, lengthIs_nil hn, hb, respondedFrame_eq,
    finishRetake_noneRetaking hr]
  rfl

/-- An acceptance outside DAMAGED sets the drain (R17, R82). -/
theorem exec_acceptable {c : Instr} {code : Byte} {st : JournalState} {o : LongOp} {f : FrameTail} {s : State}
    (hc : s.acceptable c code st o f) (h : s.takesBytes) (hn : f.args = []) (hg : goodCrc code f = true)
    (hop : s.jc.op = .none) (hf : s.fence.state = .normal)
    (hr : ((s.accept st o).startDrain s.toDrain).noneRetaking) :
    exec c s = .next ((((s.accept st o).startDrain s.toDrain).setFrame (answered code f .accepted [])).settle s.arb) := by
  have hcheck (l : List JournalState) (hst : s.jc.state ∈ l) : s.operationCheck l = none :=
    operationCheck_none.2 ⟨hop, hf, hst⟩
  obtain ⟨rfl, rfl, rfl, rfl, hst⟩ | ⟨rfl, rfl, rfl, rfl, hst⟩ | ⟨rfl, rfl, rfl, rfl, hready, hst⟩
    | ⟨rfl, rfl, rfl, rfl, hst, hready, hgeom⟩ := hc
  · refine dispatch_accepts h hn hg ?_ hr
    rw [State.commitCommand, hcheck _ (by simp [hst])]
    simp [hst]
  · refine dispatch_accepts h hn hg ?_ hr
    rw [State.abortCommand, hcheck _ (by simp [hst])]
    simp [hst]
  · refine dispatch_accepts h hn hg ?_ hr
    rw [State.formatCommand, hcheck _ (by rcases hst with hst | hst <;> simp [hst])]
    rcases hst with hst | ⟨hst, hfill⟩
    · simp [hready, hst]
    · simp [hready, hst, hfill]
  · refine dispatch_accepts h hn hg ?_ hr
    rw [State.applyCommand, hcheck _ (by simp [hst])]
    simp [hready, hgeom]

/-- The ports an acceptance drains, one by one (R82). -/
theorem toDrain_eq (s : State) : s.toDrain =
    (if s.portA.stage = .captureWait ∨ s.portA.stage = .inMemory then [.a] else [])
      ++ (if s.portB.stage = .captureWait ∨ s.portB.stage = .inMemory then [.b] else []) := by
  unfold State.toDrain
  simp only [List.filter_cons, State.port, List.filter_nil]
  by_cases ha : s.portA.stage = .captureWait ∨ s.portA.stage = .inMemory <;>
    by_cases hb : s.portB.stage = .captureWait ∨ s.portB.stage = .inMemory <;> simp [ha, hb]

/-- Settles O28: a drain of some port is set, and nothing else is done. -/
theorem anAcceptedOperationDrainsFirst : Obligations.AnAcceptedOperationDrainsFirst := by
  intro c code st o f s h ha hn hg hop hf hr hc d hd hne
  rw [← toDrain_eq] at hd
  subst hd
  have hstart : (s.accept st o).startDrain s.toDrain
      = (s.accept st o).setJc { (s.accept st o).jc with step := some .draining, drain := s.toDrain } := if_neg hne
  rw [exec_acceptable hc h hn hg hop hf (by rw [hstart]; exact hr), hstart, settle_unchanged ha (by rfl)]
  rfl

/-! ## The frame and the work commute -/

theorem startAdvance_setFrame (s : State) (k : Option Frame) : s.startAdvance.setFrame k = (s.setFrame k).startAdvance := by
  show State.setFrame (if s.jc.epoch = lastEpoch then _ else _) k = if s.jc.epoch = lastEpoch then _ else _
  split <;> rfl

theorem startScrub_setFrame (s : State) (k : Option Frame) : s.startScrub.setFrame k = (s.setFrame k).startScrub := rfl

theorem startApplyAnchor_setFrame (s : State) (k : Option Frame) :
    s.startApplyAnchor.setFrame k = (s.setFrame k).startApplyAnchor := rfl

theorem startRollback_setFrame (s : State) (k : Option Frame) :
    s.startRollback.setFrame k = (s.setFrame k).startRollback := by
  show State.setFrame (if 0 ≤ (s.jc.fill : Int) - 1 then _ else _) k = if 0 ≤ (s.jc.fill : Int) - 1 then _ else _
  split
  · rfl
  · exact startAdvance_setFrame _ k

/-- No held write retakes its decision at the end of a drain: only an APPLY that ends with NOT_EMPTY ends a hold there
(R70, R141). -/
def State.drainsQuietly (s : State) : Prop := s.jc.op = .apply → s.jc.fill ≠ 0 → s.noneHeld

/-- The end of a drain leaves the frame to the dispatch (R17, R82). -/
theorem drainDone_setFrame {s : State} (h : s.drainsQuietly) (k : Option Frame) :
    s.drainDone.setFrame k = (s.setFrame k).drainDone := by
  unfold State.drainDone
  rw [State.setFrame_jc]
  split
  · exact startAdvance_setFrame s k
  · exact startRollback_setFrame s k
  · next hop =>
    split
    · rfl
    · next hfill =>
      have hnone := h hop hfill
      rw [State.applyNotEmpty, State.applyNotEmpty, retake_noneHeld (by exact hnone), retake_noneHeld (by exact hnone)]
      rfl
  · rfl
  · rfl
  · rfl

/-- The end of a drain leaves the ports where no held write retakes its decision (R82). -/
theorem drainDone_ports {s : State} (h : s.drainsQuietly) :
    s.drainDone.portA = s.portA ∧ s.drainDone.portB = s.portB := by
  unfold State.drainDone
  split
  · simp
  · simp
  · next hop =>
    split
    · simp
    · next hfill =>
      rw [State.applyNotEmpty, retake_noneHeld (by exact h hop hfill)]
      exact ⟨rfl, rfl⟩
  · simp
  · simp
  · simp

/-- Settles O29: an empty drain is complete at the acceptance, which begins the operation's own work. -/
theorem anAcceptedOperationWithNothingToDrainBegins : Obligations.AnAcceptedOperationWithNothingToDrainBegins := by
  intro c code st o f s g h hn hg hop hf hw hr hc hports
  have hc' : s.acceptable c code st o f := by
    obtain hc | hc | hc | ⟨h1, h2, h3, h4, h5, h6, h7, h8⟩ := hc
    · exact .inl ⟨hc.1, hc.2.1, hc.2.2.1, hc.2.2.2.1, hc.2.2.2.2.1⟩
    · exact .inr (.inl ⟨hc.1, hc.2.1, hc.2.2.1, hc.2.2.2.1, hc.2.2.2.2.1⟩)
    · exact .inr (.inr (.inl hc))
    · exact .inr (.inr (.inr ⟨h1, h2, h3, h4, h5, h6, by rw [h8, h7]⟩))
  have hgeom : s.jc.geom = some g ∨ o = .format := by
    obtain hc | hc | hc | hc := hc
    · exact .inl hc.2.2.2.2.2
    · exact .inl hc.2.2.2.2.2
    · exact .inr hc.2.2.2.1
    · exact .inl hc.2.2.2.2.2.2.2
  have hnone : s.toDrain = [] := by
    rw [toDrain_eq, if_neg (by exact not_or.2 (hports .a)), if_neg (by exact not_or.2 (hports .b))]
    rfl
  by_cases hq : (s.drains code f st o []).drainsQuietly
  · have hstart : (s.accept st o).startDrain s.toDrain
        = State.drainDone { s with jc := { s.jc with state := st, op := o, step := some .draining, drain := [] } } := by
      rw [hnone]; rfl
    have hr' : ((s.accept st o).startDrain s.toDrain).noneRetaking := by
      obtain ⟨ha, hb⟩ := drainDone_ports (s := { s with jc := { s.jc with
        state := st, op := o, step := some .draining, drain := [] } }) hq
      rw [hstart]
      exact ⟨(retaking_congr (port_congr ha hb .a)).trans hr.1, (retaking_congr (port_congr ha hb .b)).trans hr.2⟩
    refine ⟨_, exec_acceptable hc' h hn hg hop hf hr', ?_⟩
    rw [hstart, drainDone_setFrame (by exact hq)]
    exact drainDone_begins (s.drains code f st o []) g hgeom hw s.arb
  · obtain ⟨t, ht⟩ := exec_answers c s
    refine ⟨t, ht, ?_⟩
    obtain ⟨happly, hfill, hheld⟩ : o = .apply ∧ s.jc.fill ≠ 0 ∧ ¬ (s.drains code f st o []).noneHeld := by
      simpa [State.drainsQuietly, State.drains] using hq
    subst happly
    exact ⟨nofun, nofun, nofun, nofun, fun _ hz => absurd hz hfill, fun _ _ hn => absurd hn hheld⟩

/-! ## In DAMAGED (R104, R110, R144) -/

/-- Settles O30: in DAMAGED the work begins at the acceptance, whatever the ports do. -/
theorem operationsBeginAtOnceInDamaged : Obligations.OperationsBeginAtOnceInDamaged := by
  intro f s g h hn hop hf hst hg hd hw hr
  have hcheck (l : List JournalState) (hl : .damaged ∈ l) : s.operationCheck l = none :=
    operationCheck_none.2 ⟨hop, hf, by rwa [hst]⟩
  refine ⟨fun hcrc => ?_, fun hcrc hcount => ?_, fun hcrc hready => ?_⟩
  · have hbody : s.commitCommand = (.bare .accepted, ((s.accept .committing .commit).startAdvance).finishRetake) := by
      rw [State.commitCommand, hcheck _ (by simp)]
      simp [hst]
    have hr' : ((s.accept .committing .commit).startAdvance).noneRetaking :=
      ⟨(retaking_congr (port_congr (by simp [State.accept]) (by simp [State.accept]) .a)).trans hr.1,
        (retaking_congr (port_congr (by simp [State.accept]) (by simp [State.accept]) .b)).trans hr.2⟩
    refine ⟨_, dispatch_accepts h hn hcrc hbody hr', ?_⟩
    rw [startAdvance_setFrame]
    obtain ⟨t, rfl, h1, h2⟩ := startAdvance_begins
      ((s.accept .committing .commit).setFrame (answered 0x10 f .accepted [])) g hg hw.1 s.arb
    exact ⟨h1, h2⟩
  · have hscan : (s.accept .aborting .abort).startScan .rescanning
        = ({ s with jc := { s.jc with
              state := .aborting, op := .abort, step := some .rescanning, scan := some ⟨0, false, 0⟩ } } : State).request
            .journal ⟨.scanRead, slotAt g 0, 20, []⟩ := by
      unfold State.startScan State.scanTo
      dsimp only
      rw [activeGeom_of (by exact hg), if_pos (by exact hcount)]
      rfl
    have hbody : s.abortCommand = (.bare .accepted, ((s.accept .aborting .abort).startScan .rescanning).finishRetake) := by
      rw [State.abortCommand, hcheck _ (by simp)]
      simp [hst]
    refine ⟨_, dispatch_accepts h hn hcrc hbody (by rw [hscan]; exact hr), ?_⟩
    rw [hscan]
    refine ⟨?_, nowHas_settle (nowHas_arb (nowHas_request rfl) rfl)⟩
    conv_lhs => rw [settle_frame]
    rfl
  · have hdone : (s.accept .formatting .format).startDrain []
        = State.startScrub { s with jc := { s.jc with
            state := .formatting, op := .format, step := some .draining } } := by
      rw [State.startDrain, if_pos rfl, ← hd]
      rfl
    have hbody : s.formatCommand = (.bare .accepted, ((s.accept .formatting .format).startDrain []).finishRetake) := by
      rw [State.formatCommand, hcheck _ (by simp)]
      simp [hst, hready]
    refine ⟨_, dispatch_accepts h hn hcrc hbody (by exact hr), ?_⟩
    rw [hdone, startScrub_setFrame]
    exact startScrub_begins (s.drains 0x12 f .formatting .format s.jc.drain) s.store.stagedGeom rfl s.arb

end Sys2Proof.Machine
end

section
/-! PROOFS. The Anchor Unit's completions, and the ends of the operations they bring (R85, R87, R91, R101, R102, R109,
R124, R130, R142, R144, R145). -/
namespace Sys2Proof.Machine

open Sys2Proof

/-! ## What the rows do where they can be taken -/

/-- The part as the last write of an anchor leaves it, before the operation goes on (R91). -/
def State.anchorStored (s : State) (op : MemOp) (k : Copy) (seq : Word) : State :=
  (s.release.storeCells op).setAnchors { s.anchors with newest := some k, seq := seq, op := none }

theorem exec_anchorReadFirstPartComplete {s : State} {op : MemOp} {k : Copy}
    (h : s.inPort .journal .anchorReadFirst op) (hop : s.anchors.op = some (.readFirst k)) (merr : Bool) :
    exec (.anchorReadFirstPartComplete merr) s
      = .next (((s.release.setAnchors { s.anchors with op := some (.readSecond k (s.bytesRead op) merr) }).request
          .journal (.reads .anchorReadSecond (secondPart k s.memSize) 5)).settle s.arb) := by
  simp [exec, execAnchorReadFirstPartComplete, inPort_inProgress h, hop, State.occur]
  rfl

theorem exec_anchorWriteFirstPartComplete {s : State} {op : MemOp} {k : Copy} {seq : Word} {rest : List Byte}
    (h : s.inPort .journal .anchorWriteFirst op) (hop : s.anchors.op = some (.writeFirst k seq rest)) :
    exec .anchorWriteFirstPartComplete s
      = .next ((((s.release.storeCells op).setAnchors { s.anchors with op := some (.writeSecond k seq) }).request
          .journal (.writes .anchorWriteSecond (secondPart k s.memSize) rest)).settle s.arb) := by
  simp [exec, execAnchorWriteFirstPartComplete, inPort_inProgress h, hop, State.occur]

theorem exec_anchorWriteComplete {s : State} {op : MemOp} {k : Copy} {seq : Word}
    (h : s.inPort .journal .anchorWriteSecond op) (hop : s.anchors.op = some (.writeSecond k seq)) :
    exec .anchorWriteComplete s = .next ((s.anchorStored op k seq).anchorDone.settle s.arb) := by
  simp [exec, execAnchorWriteComplete, inPort_inProgress h, hop, State.occur, State.anchorStored]

/-! ## The arbiter behind a completion (R174) -/

/-- What a requester has after an event whose completion left it nothing. -/
theorem nowHas_after {s u t : State} {r : Requester} {x : Option MemOp} (h : s.nowHas u r none)
    (ht : u.nowHas t r x) : s.nowHas t r x := by
  intro q
  rw [ht q, h q]
  split <;> rfl

/-- The anchor that begins behind a completion is the one that the part before it gives. -/
theorem beginsAnchor_after {s u t : State} {e : Word} {ph : Phase} {g : Geometry} {c : Setup}
    (hn : s.nowHas u .journal none) (ha : u.anchors = s.anchors) (hm : u.memSize = s.memSize)
    (h : u.beginsAnchor t e ph g c) : s.beginsAnchor t e ph g c := by
  obtain ⟨hop, hreq⟩ := h
  refine ⟨by rw [hop, ha, hm], nowHas_after hn ?_⟩
  simpa [ha, hm] using hreq

/-- A write of a few bytes stores them (R172). -/
theorem storedBy_storeCells {s : State} {op : MemOp} (h : op.cells.length ≤ 80) :
    s.mem.storedBy (s.mem.writeCells op.addr op.cells) op :=
  Mem.storedBy_writeCells s.mem op (by simp only [addressSpace]; omega)

theorem storedBy_anchorStored {s : State} {op : MemOp} (h : op.cells.length ≤ 20) (k : Copy) (seq : Word) :
    s.mem.storedBy (s.anchorStored op k seq).mem op :=
  storedBy_storeCells (by omega)

/-- The place of a copy, in the anchor area's last four lines (R84). -/
theorem secondPart_eq (k : Copy) (m : MemSize) :
    secondPart k m = m.lines * 64 - (if k = .a then 256 else 128) + 80 := by
  cases k <;> rfl

/-- Settles O36: the two parts of a copy, and copy B behind copy A. -/
theorem aCopyIsReadAndWrittenInTwoParts : Obligations.ACopyIsReadAndWrittenInTwoParts := by
  intro s op k place
  refine ⟨fun merr h hop => ?_, fun merr first m a h hop ha => ?_, fun seq rest h hop hl hr => ?_⟩
  · refine ⟨_, exec_anchorReadFirstPartComplete h hop merr, ?_, ?_⟩
    · conv_lhs => rw [settle_frame]
      rfl
    · refine nowHas_settle (nowHas_after (inPort_release h) ?_)
      rw [secondPart_eq]
      exact nowHas_request rfl
  · refine ⟨_, exec_anchorReadComplete merr h hop, ?_, ?_⟩
    · conv_lhs => rw [settle_frame]
      rw [← ha]
      cases a <;> rfl
    · exact nowHas_settle (nowHas_after (inPort_release h) (nowHas_request rfl))
  · refine ⟨_, exec_anchorWriteFirstPartComplete h hop, ?_, ?_, ?_⟩
    · simpa using storedBy_storeCells hl
    · conv_lhs => rw [settle_stored]
      rfl
    · refine nowHas_settle (nowHas_after (inPort_release h) ?_)
      rw [secondPart_eq, MemOp.writes, hr]
      exact nowHas_request rfl

/-! ## The operations' ends (R101, R109, R124, R130) -/

/-- The epoch advance ends with the epoch that its last anchor carries (R4). -/
theorem anchorDone_advance {s : State} {e : Word}
    (h : (s.jc.step = some .advancing ∧ s.jc.epoch ≠ 4294967295 ∧ e = s.jc.epoch + 1)
      ∨ (s.jc.step = some .wrapAnchor ∧ e = 1)) : s.anchorDone = s.completeAdvance e := by
  obtain ⟨hstep, he, rfl⟩ | ⟨hstep, rfl⟩ := h
  · rw [State.anchorDone, hstep]
    exact if_neg he
  · rw [State.anchorDone, hstep]

/-- A COMMIT's end, with no write held (R101). -/
theorem completeAdvance_commit {s : State} {e : Word} (hop : s.jc.op = .commit) (hn : s.noneHeld) :
    s.completeAdvance e = { s with
      filter := ⟨[], false⟩
      jc := { s.jc.ended .active e 0 with lastOp := some ⟨.commit, .done, s.jc.epoch, e, 0, [], 0⟩ }
      attn := { s.attn with pending := s.attn.pending ||| 1 } } := by
  rw [State.completeAdvance, hop]
  dsimp only
  rw [State.completeCommit, retake_noneHeld (by exact hn), State.opRecord, hop]
  rfl

/-- An ABORT's end with every record applied (R109). -/
theorem completeAdvance_abort {s : State} {e : Word} {rb : Rollback} (hop : s.jc.op = .abort)
    (hrb : s.jc.rollback = some rb) : s.completeAdvance e = { s with
      filter := ⟨[], false⟩
      jc := { s.jc.ended .active e 0 with
        lastOp := some ⟨.abort, .done, s.jc.epoch, e, rb.applied, [], 0⟩ }
      attn := { s.attn with pending := s.attn.pending ||| 1 } } := by
  rw [State.completeAdvance, hop]
  dsimp only
  rw [State.completeAbort, State.opRecord, hop, hrb]
  rfl

/-- A recovery's end (R131). -/
theorem completeRecovery_eq {s : State} {g : Geometry} (hg : s.store.geom = some g) (o : RecoveryOutcome)
    (st : JournalState) (e : Word) (fill : Nat) (r : Report) : s.completeRecovery o st e fill r = { s with
      jc := { s.jc.ended st e fill with working := none }
      store := s.store.copied g
      attn := { s.attn with report := some { r with outcome := some o }, pending := s.attn.pending ||| 2 } } := by
  have : s.store.restage = s.store.copied g := by simp only [Store.restage, hg, Store.copied]
  rw [State.completeRecovery, this]
  rfl

/-- A recovery's end without a geometry (R131, R135). -/
theorem completeRecovery_unformatted {s : State} (hg : s.store.geom = none) (o : RecoveryOutcome)
    (st : JournalState) (e : Word) (fill : Nat) (r : Report) : s.completeRecovery o st e fill r = { s with
      jc := { s.jc.ended st e fill with working := none }
      store := { s.store with
        stagedGeom := ⟨0, 16⟩, staged := ⟨List.replicate 8 ⟨0, 0, none⟩, .direct, 0, .hold, .level⟩
        staging := .draft }
      attn := { s.attn with report := some { r with outcome := some o }, pending := s.attn.pending ||| 2 } } := by
  have : s.store.restage = { s.store with
      stagedGeom := ⟨0, 16⟩, staged := ⟨List.replicate 8 ⟨0, 0, none⟩, .direct, 0, .hold, .level⟩
      staging := .draft } := by
    simp only [Store.restage, hg]
    rfl
  rw [State.completeRecovery, this]
  rfl

/-- The working report, where there is one (R120). -/
theorem workingReport_of {s : State} {r : Report} (h : s.jc.working = some r) : s.workingReport = r := by
  rw [State.workingReport, h]
  rfl

/-- A recovery's end behind its epoch advance (R124, R130). -/
theorem completeAdvance_recovery {s : State} {e : Word} {g : Geometry} {r : Report} (hop : s.jc.op = .recovery)
    (hg : s.store.geom = some g) (hr : s.jc.working = some r) : s.completeAdvance e = { s with
      filter := ⟨[], false⟩
      jc := { s.jc.ended .active e 0 with working := none }
      store := s.store.copied g
      attn := { s.attn with
        report := some (match s.jc.rollback with
          | some rb => { r with
              applied := rb.applied, lines := rb.lines, further := rb.further, outcome := some .rolledBack }
          | none => { r with outcome := some .scrubResumed })
        pending := s.attn.pending ||| 2 } } := by
  rw [State.completeAdvance, hop]
  dsimp only
  rw [workingReport_of hr]
  cases s.jc.rollback with
  | none => exact completeRecovery_eq (s := s.setFilter .empty) hg ..
  | some rb => exact completeRecovery_eq (s := s.setFilter .empty) hg ..

/-- Settles O39: the last anchor of a COMMIT ends its epoch advance, and with it the COMMIT. -/
theorem aCommitCompletes : Obligations.ACommitCompletes := by
  intro s op k seq e h hl hop hc hn hadv
  have hdone : (s.anchorStored op k seq).anchorDone = _ :=
    (anchorDone_advance (s := s.anchorStored op k seq) hadv).trans
      (completeAdvance_commit (s := s.anchorStored op k seq) hc hn)
  refine ⟨_, exec_anchorWriteComplete h hop, ?_⟩
  rw [hdone]
  refine ⟨?_, ?_, nowHas_settle (nowHas_arb (inPort_release h) rfl)⟩
  · simpa using storedBy_anchorStored hl k seq
  · conv_lhs => rw [settle_stored]
    rfl

/-- Settles O40: the same end of the epoch advance, in an ABORT and in a recovery. -/
theorem anAbortAndARecoveryCompleteAfterTheAdvance : Obligations.AnAbortAndARecoveryCompleteAfterTheAdvance := by
  intro s op k seq e g h hl hop hg hadv durable restaged
  have hstored := storedBy_anchorStored (s := s) hl k seq
  have hdone := anchorDone_advance (s := s.anchorStored op k seq) hadv
  have hexec := exec_anchorWriteComplete h hop
  rw [hdone] at hexec
  refine ⟨fun rb hc hrb => ?_, fun rb r hc hrb hr => ?_, fun r hc hrb hr => ?_⟩
  · rw [completeAdvance_abort (s := s.anchorStored op k seq) hc hrb] at hexec
    refine ⟨_, hexec, by simpa using hstored, nowHas_settle (nowHas_arb (inPort_release h) rfl), ?_⟩
    conv_lhs => rw [settle_stored]
    rfl
  · rw [completeAdvance_recovery (s := s.anchorStored op k seq) hc hg hr] at hexec
    refine ⟨_, hexec, by simpa using hstored, nowHas_settle (nowHas_arb (inPort_release h) rfl), ?_⟩
    conv_lhs => rw [settle_stored]
    simp only [State.anchorStored, State.setAnchors_jc, State.storeCells, State.setMem_jc, State.release_untouched, hrb]
    rfl
  · rw [completeAdvance_recovery (s := s.anchorStored op k seq) hc hg hr] at hexec
    refine ⟨_, hexec, by simpa using hstored, nowHas_settle (nowHas_arb (inPort_release h) rfl), ?_⟩
    conv_lhs => rw [settle_stored]
    simp only [State.anchorStored, State.setAnchors_jc, State.storeCells, State.setMem_jc, State.release_untouched, hrb]
    rfl

/-- Settles O41: at the last epoch the ADVANCING anchor ends in the scrub of a wrap. -/
theorem anEpochWrapScrubsTheJournal : Obligations.AnEpochWrapScrubsTheJournal := by
  intro s op k seq g h hl hop hstep he hf hg
  have hdone : (s.anchorStored op k seq).anchorDone = (s.anchorStored op k seq).startScrub := by
    rw [State.anchorDone, show (s.anchorStored op k seq).jc.step = some .advancing from hstep]
    exact if_pos he
  have hgeom : (s.anchorStored op k seq).scrubGeom = g := by
    rw [State.scrubGeom, if_neg (by exact hf), activeGeom_of (by exact hg)]
  obtain ⟨ht, hreq⟩ := startScrub_begins (s.anchorStored op k seq) g hgeom s.arb
  refine ⟨_, (exec_anchorWriteComplete h hop).trans (by rw [hdone]), ?_⟩
  generalize (s.anchorStored op k seq).startScrub.settle s.arb = t at ht hreq ⊢
  have hmem : t.mem = (s.anchorStored op k seq).mem := by rw [ht]
  refine ⟨?_, ?_, nowHas_after (nowHas_arb (inPort_release h) rfl) hreq⟩
  · rw [hmem]
    exact storedBy_anchorStored hl k seq
  · rw [hmem]
    exact ht

/-! ## New settings (R142, R145, R155) -/

/-- The fence and the causes as new settings leave them (R155). -/
theorem adoptFence_eq (s : State) (c : Setup) : s.adoptFence c = { s with
    fence := if s.fence.state = .latched ∧ c.mode = .level then ⟨.normal, c.action, .level⟩
      else ⟨s.fence.state, c.action, c.mode⟩
    attn := { s.attn with
      pending := if s.fence.state = .latched ∧ c.mode = .level then s.attn.pending ||| 32 else s.attn.pending } } := by
  unfold State.adoptFence
  split
  · next h => rw [h.2]; rfl
  · rfl

/-- An APPLY's end, with no write held (R142). -/
theorem completeApply_eq {s : State} (hop : s.jc.op = .apply) (hn : s.noneHeld) :
    s.completeApply = { s.adoptFence s.store.staged with
      store := { s.store with active := s.store.staged }
      decoder := { s.decoder with windows := s.store.staged.windows, default := s.store.staged.default }
      jc := { s.jc.ended .active s.jc.epoch s.jc.fill with
        lastOp := some ⟨.apply, .done, s.jc.epoch, s.jc.epoch, 0, [], 0⟩ }
      attn := { (s.adoptFence s.store.staged).attn with
        pending := (s.adoptFence s.store.staged).attn.pending ||| 1 } } := by
  have hheld : (((s.setStore { s.store with active := s.store.staged }).setDecoder
      { s.decoder with windows := s.store.staged.windows, default := s.store.staged.default }).adoptFence
        s.store.staged).noneHeld := by
    rw [adoptFence_eq]
    exact hn
  rw [State.completeApply, retake_noneHeld (by exact hheld), State.opRecord, hop]
  simp only [adoptFence_eq]
  rfl

/-- A FORMAT's end, with no write held (R145). -/
theorem completeFormat_eq {s : State} (hop : s.jc.op = .format) (hn : s.noneHeld) :
    s.completeFormat = { s.adoptFence s.store.staged with
      store := { s.store with geom := some s.store.stagedGeom, active := s.store.staged }
      decoder := Decoder.load s.memSize (some s.store.stagedGeom) s.store.staged
      filter := ⟨[], false⟩
      jc := { s.jc.ended .active 1 0 with
        geom := some s.store.stagedGeom, lastOp := some ⟨.format, .done, s.jc.epoch, 1, 0, [], 0⟩ }
      attn := { (s.adoptFence s.store.staged).attn with
        pending := (s.adoptFence s.store.staged).attn.pending ||| 1 } } := by
  rw [State.completeFormat, State.opRecord, hop]
  simp only [adoptFence_eq]
  exact retake_noneHeld hn

/-- What the end of an APPLY or a FORMAT says of the fence and of the causes (R142, R155). -/
theorem adoptFence_ends (s : State) (c : Setup) :
    (s.fence.state = .latched ∧ c.mode = .level → (s.adoptFence c).fence = ⟨.normal, c.action, .level⟩
      ∧ (s.adoptFence c).attn.pending ||| 1 = s.attn.pending ||| 33)
    ∧ (¬ (s.fence.state = .latched ∧ c.mode = .level) → (s.adoptFence c).fence = ⟨s.fence.state, c.action, c.mode⟩
      ∧ (s.adoptFence c).attn.pending ||| 1 = s.attn.pending ||| 1) := by
  rw [adoptFence_eq]
  refine ⟨fun h => ?_, fun h => ?_⟩
  · simp only [if_pos h, BitVec.or_assoc]
    exact ⟨trivial, rfl⟩
  · simp only [if_neg h]
    exact ⟨trivial, trivial⟩

/-- Settles O42: an APPLY's anchor brings its staged settings into force. -/
theorem anApplyCompletes : Obligations.AnApplyCompletes := by
  intro s op k seq h hl hop hstep hc hn c ends
  have hdone : (s.anchorStored op k seq).anchorDone = (s.anchorStored op k seq).completeApply := by
    rw [State.anchorDone, show (s.anchorStored op k seq).jc.step = some .applyAnchor from hstep]
  rw [completeApply_eq (s := s.anchorStored op k seq) hc hn] at hdone
  obtain ⟨hends, hstays⟩ := adoptFence_ends (s.anchorStored op k seq) c
  refine ⟨_, (exec_anchorWriteComplete h hop).trans (by rw [hdone]), ?_, ?_, fun he => ?_, fun he => ?_,
    nowHas_settle (nowHas_arb (inPort_release h) (by rw [adoptFence_eq]; rfl))⟩
  · simpa [adoptFence_eq] using storedBy_anchorStored hl k seq
  · conv_lhs => rw [settle_stored]
    simp only [adoptFence_eq, State.settle_untouched]
    rfl
  · simp only [State.settle_untouched]
    exact hends he
  · simp only [State.settle_untouched]
    exact hstays he

/-- Settles O43: FORMAT's first anchor is followed by its second, and the second brings the staging image into force. -/
theorem aFormatWritesBothCopiesAndCompletes : Obligations.AFormatWritesBothCopiesAndCompletes := by
  intro s op k seq h hl hop hc hw c g ends durable
  refine ⟨fun hstep => ?_, fun hstep hn => ?_⟩
  · have hdone : (s.anchorStored op k seq).anchorDone
        = ((s.anchorStored op k seq).setStep .secondAnchor).writeAnchor 1 .opened g c := by
      rw [State.anchorDone, show (s.anchorStored op k seq).jc.step = some .firstAnchor from hstep]
      rfl
    obtain ⟨hbegins, ht⟩ := writeAnchor_begins ((s.anchorStored op k seq).setStep .secondAnchor) 1 .opened g c hw.2 s.arb
    refine ⟨_, (exec_anchorWriteComplete h hop).trans (by rw [hdone]), ?_⟩
    generalize State.settle s.arb (State.writeAnchor _ _ _ _ _) = t at hbegins ht ⊢
    have hmem : t.mem = (s.anchorStored op k seq).mem := by rw [ht]; rfl
    refine ⟨?_, ?_, beginsAnchor_after (inPort_release h) rfl rfl hbegins, ?_⟩
    · rw [hmem]
      exact storedBy_anchorStored hl k seq
    · simp only [durable, hmem]
      exact ht
    · rw [hbegins.1]
      cases k <;> rfl
  · have hdone : (s.anchorStored op k seq).anchorDone = (s.anchorStored op k seq).completeFormat := by
      rw [State.anchorDone, show (s.anchorStored op k seq).jc.step = some .secondAnchor from hstep]
    rw [completeFormat_eq (s := s.anchorStored op k seq) hc hn] at hdone
    obtain ⟨hends, hstays⟩ := adoptFence_ends (s.anchorStored op k seq) c
    refine ⟨_, (exec_anchorWriteComplete h hop).trans (by rw [hdone]), ?_, ?_, fun he => ?_, fun he => ?_,
      nowHas_settle (nowHas_arb (inPort_release h) (by rw [adoptFence_eq]; rfl))⟩
    · simpa [adoptFence_eq] using storedBy_anchorStored hl k seq
    · conv_lhs => rw [settle_stored]
      simp only [durable, adoptFence_eq, State.settle_untouched]
      rfl
    · simp only [State.settle_untouched]
      exact hends he
    · simp only [State.settle_untouched]
      exact hstays he

/-! ## The scrub (R33) -/

theorem exec_scrubWriteComplete {s : State} {op : MemOp} {k : Nat} (h : s.inPort .journal .scrubWrite op)
    (hk : s.jc.scrub = some k) :
    exec .scrubWriteComplete s = .next (((s.release.storeCells op).scrubbed k).settle s.arb) := by
  simp [exec, execScrubWriteComplete, inPort_inProgress h, hk, State.occur]

/-- The request for a slot's EMPTY record (R20, R33). -/
theorem requestScrub_eq {s : State} {g : Geometry} (hg : s.scrubGeom = g) (k : Nat) :
    s.requestScrub k = (s.setJc { s.jc with scrub := some k }).request .journal
      ⟨.scrubWrite, slotAt g k, 20, (emptyRecord k).map some⟩ := by
  rw [State.requestScrub, scrubWrite_eq, hg]
  rfl

/-- The anchor behind a scrub, FORMAT's first or the one with epoch 1 and phase OPEN (R33, R144). -/
theorem scrubbed_last {s : State} {k : Nat} {g : Geometry} (hg : s.scrubGeom = g) (hk : g.count ≤ k + 1) :
    s.scrubbed k = (s.setJc { s.jc with
        scrub := none, step := some (if s.jc.op = .format then .firstAnchor else .wrapAnchor) }).writeAnchor
      1 .opened g (if s.jc.op = .format then s.store.staged else s.store.active) := by
  rw [State.scrubbed, hg, if_neg (by omega)]
  dsimp only
  by_cases hop : s.jc.op = .format
  · rw [State.scrubGeom, if_pos hop] at hg
    simp only [if_pos hop, ← hg]
    rfl
  · rw [State.scrubGeom, if_neg hop] at hg
    simp only [if_neg hop, ← hg]
    rfl

/-- Settles O44: the scrub goes on at the next slot, or to the anchor behind it. -/
theorem aScrubGoesThroughEverySlot : Obligations.AScrubGoesThroughEverySlot := by
  intro s op k g h hl hk hg hw
  have hgeom : (s.release.storeCells op).scrubGeom = g := by
    rw [State.scrubGeom]
    simp only [State.storeCells_untouched, State.release_untouched]
    split
    · next hop => rwa [if_pos hop] at hg
    · next hop =>
      rw [if_neg hop] at hg
      exact activeGeom_of hg
  have hstored := storedBy_storeCells (s := s) hl
  refine ⟨_, exec_scrubWriteComplete h hk, ?_, fun hnext => ?_, fun hlast => ?_⟩
  · simpa using hstored
  · rw [State.scrubbed, hgeom, if_pos hnext, requestScrub_eq hgeom]
    refine ⟨?_, nowHas_settle (nowHas_after (inPort_release h) (nowHas_request rfl))⟩
    conv_lhs => rw [settle_stored]
    rfl
  · have hdone : (s.release.storeCells op).scrubbed k = ((s.release.storeCells op).setJc { s.jc with
          scrub := none, step := some (if s.jc.op = .format then .firstAnchor else .wrapAnchor) }).writeAnchor
        1 .opened g (if s.jc.op = .format then s.store.staged else s.store.active) := scrubbed_last hgeom hlast
    rw [hdone]
    obtain ⟨hbegins, ht⟩ := writeAnchor_begins ((s.release.storeCells op).setJc { s.jc with
        scrub := none, step := some (if s.jc.op = .format then .firstAnchor else .wrapAnchor) }) 1 .opened g
      (if s.jc.op = .format then s.store.staged else s.store.active) (by split; exact hw.2; exact hw.1) s.arb
    generalize State.settle s.arb (State.writeAnchor _ _ _ _ _) = t at hbegins ht ⊢
    have hmem : t.mem = (s.release.storeCells op).mem := by rw [ht]; rfl
    refine ⟨?_, beginsAnchor_after (inPort_release h) rfl rfl hbegins⟩
    rw [hmem]
    exact ht

/-! ## The selection (R90, R122, R123) -/

/-- The chosen anchor starts the scrub or the scan, by its phase (R90, R123). -/
theorem selectAnchor_of_chosen {s : State} {a b : Option Anchor} {k : Copy} {x : Anchor}
    (hn : newestOf a b = some k) (hx : (if k = .a then a else b) = some x) :
    (x.phase = .opened → s.selectAnchor a b = (s.chosen k x).startScan .scanning)
      ∧ (x.phase = .scrubbing → s.selectAnchor a b = (s.chosen k x).startScrub) := by
  cases k
  all_goals
    obtain rfl := hx
    refine ⟨fun hp => ?_, fun hp => ?_⟩ <;> simp only [State.selectAnchor, hn, hp] <;> simp [State.chosen, hp]

/-- A scan at a slot of the journal reads it (R125). -/
theorem scanTo_below {s : State} {g : Geometry} {k : Nat} (hg : s.jc.geom = some g) (hk : k < g.count) :
    s.scanTo k = (s.setJc { s.jc with scan := some ⟨k, false, 0⟩ }).request .journal
      ⟨.scanRead, slotAt g k, 20, []⟩ := by
  rw [State.scanTo, activeGeom_of hg, if_pos hk]
  rfl

/-- All that the choice of an anchor does before its work starts (R90, R123). -/
theorem chosen_eq {s : State} {r : Report} (hr : s.jc.working = some r) (k : Copy) (x : Anchor) :
    s.chosen k x = { s with
      anchors := { s.anchors with newest := some k, seq := x.seq, heldA := none, op := none }
      store := { s.store with geom := some x.geom, active := x.setup }
      decoder := ⟨x.setup.windows, x.setup.default,
        some (x.geom.base, x.geom.base + (x.geom.count * 5 + 3) / 4 - 1), s.memSize.lines - 4⟩
      fence := { s.fence with action := x.setup.action, mode := x.setup.mode }
      jc := { s.jc with
        geom := some x.geom, epoch := x.epoch
        working := some { r with anchor := some k, seq := x.seq, epoch := x.epoch, phase := x.phase } } } := by
  rw [State.chosen, workingReport_of hr]
  rfl

/-- The scan begins with the read of slot 0 (R125). -/
theorem startScan_begins {s : State} {g : Geometry} (hg : s.jc.geom = some g) (hc : 0 < g.count) (x : Step)
    (b : Arbiter) :
    (s.startScan x).settle b = { s with
      jc := { s.jc with step := some x, scan := some ⟨0, false, 0⟩ }
      arb := ((s.startScan x).settle b).arb, free := ((s.startScan x).settle b).free }
    ∧ s.nowHas ((s.startScan x).settle b) .journal (readOf .scanRead (slotAt g 0) 20) := by
  have he : s.startScan x = (s.setJc { s.jc with step := some x, scan := some ⟨0, false, 0⟩ }).request .journal
      ⟨.scanRead, slotAt g 0, 20, []⟩ := scanTo_below (s := s.setStep x) hg hc
  rw [he]
  refine ⟨?_, nowHas_settle (nowHas_request rfl)⟩
  conv_lhs => rw [settle_frame]
  rfl

/-- Settles O38: the selection, by the anchor that is chosen and its phase. -/
theorem recoveryLoadsTheNewestAnchor : Obligations.RecoveryLoadsTheNewestAnchor := by
  intro s op merr m first a b r h hop hc hr ha hb
  have hexec := exec_anchorReadComplete merr h hop
  rw [← hb] at hexec
  have hanchors := copyRead_b_anchors (s := s.release) (by simpa using hc) b
  simp only [State.release_untouched, ← ha] at hanchors
  let v : State := s.release.setAnchors { s.anchors with validB := validity b }
  refine ⟨_, hexec, ?_⟩
  generalize ht : State.settle s.arb (s.release.copyRead .b b) = t
  have hsame : t.anchors = (s.release.copyRead .b b).anchors := by rw [← ht]; simp
  refine ⟨?_, ?_⟩
  · intro k x hk hx hcount setup told
    have hn : newestOf s.anchors.heldA b = some k := by rwa [hsame, hanchors, ha] at hk
    rw [ha] at hx
    obtain ⟨hscan, hscrub⟩ := selectAnchor_of_chosen (s := v) hn hx
    have harb : (v.chosen k x).arb = s.release.arb := rfl
    refine ⟨fun hp => ?_, fun hp => ?_⟩
    · have hdone : s.release.copyRead .b b = (v.chosen k x).startScan .scanning := hscan hp
      rw [hdone] at ht
      obtain ⟨hbegins, hreq⟩ := startScan_begins (s := v.chosen k x) (g := x.geom) rfl hcount .scanning s.arb
      rw [ht] at hbegins hreq
      have hset : t.anchors = (v.chosen k x).anchors := by rw [hbegins]
      refine ⟨?_, nowHas_after (nowHas_arb (inPort_release h) harb) hreq⟩
      simp only [setup, hset]
      rw [chosen_eq (s := v) hr] at hbegins ⊢
      exact hbegins
    · have hdone : s.release.copyRead .b b = (v.chosen k x).startScrub := hscrub hp
      rw [hdone] at ht
      have hchosen : (v.chosen k x).jc.op = .recovery := hc
      have hgeom : (v.chosen k x).scrubGeom = x.geom := by
        rw [State.scrubGeom, if_neg (by simp [hchosen]), activeGeom_of rfl]
      obtain ⟨hbegins, hreq⟩ := startScrub_begins (v.chosen k x) x.geom hgeom s.arb
      rw [ht] at hbegins hreq
      have hset : t.anchors = (v.chosen k x).anchors := by rw [hbegins]
      refine ⟨?_, nowHas_after (nowHas_arb (inPort_release h) harb) hreq⟩
      simp only [setup, hset]
      rw [chosen_eq (s := v) hr] at hbegins ⊢
      exact hbegins
  · rintro hna rfl hg
    let u : State := v.setAnchors { v.anchors with newest := none, seq := 0, heldA := none, op := none }
    have hdone : s.release.copyRead .b none = u.completeRecovery .unformatted .unformatted 0 0 r := by
      rw [← workingReport_of (s := u) hr]
      show v.selectAnchor s.anchors.heldA none = _
      rw [← ha, hna]
      rfl
    rw [hdone, completeRecovery_unformatted (s := u) hg] at ht
    rw [← ht]
    refine ⟨?_, nowHas_settle (nowHas_arb (inPort_release h) (by rfl))⟩
    conv_lhs => rw [settle_frame]
    simp only [State.settle_untouched]
    rfl

end Sys2Proof.Machine
end

section
/-! PROOFS. The journal scan and the rollback (R105 to R107, R110, R111, R125 to R130). -/
namespace Sys2Proof.Machine

open Sys2Proof

/-! ## What the rows do where they can be taken -/

theorem exec_scanReadComplete {s : State} {op : MemOp} {sc : Scan} (h : s.inPort .journal .scanRead op)
    (hsc : s.jc.scan = some sc) (merr : Bool) : exec (.scanReadComplete merr) s
      = .next ((s.release.scanSlot sc.pos (s.bytesRead op) merr).settle s.arb) := by
  simp [exec, execScanReadComplete, inPort_inProgress h, hsc, State.occur]
  rfl

theorem exec_lookAheadReadComplete {s : State} {op : MemOp} {sc : Scan} (h : s.inPort .journal .lookAheadRead op)
    (hsc : s.jc.scan = some sc) (merr : Bool) : exec (.lookAheadReadComplete merr) s
      = .next ((s.release.lookAheadSlot sc (s.bytesRead op) merr).settle s.arb) := by
  simp [exec, execLookAheadReadComplete, inPort_inProgress h, hsc, State.occur]
  rfl

theorem exec_rollbackReadComplete {s : State} {op : MemOp} {rb : Rollback} (h : s.inPort .journal .rollbackRead op)
    (hrb : s.jc.rollback = some rb) (merr : Bool) : exec (.rollbackReadComplete merr) s
      = .next ((s.release.rollbackSlot rb (s.bytesRead op) merr).settle s.arb) := by
  simp [exec, execRollbackReadComplete, inPort_inProgress h, hrb, State.occur]
  rfl

theorem exec_rollbackLineWriteComplete {s : State} {op : MemOp} {rb : Rollback} (h : s.inPort .journal .lineWrite op)
    (hrb : s.jc.rollback = some rb) : exec .rollbackLineWriteComplete s
      = .next (((s.release.storeCells op).rollTo { rb with applied := rb.applied + 1, pos := rb.pos - 1 }).settle
          s.arb) := by
  simp [exec, execRollbackLineWriteComplete, inPort_inProgress h, hrb, State.occur]

/-! ## The ends of an operation in DAMAGED (R109, R111, R129) -/

/-- An ABORT's end in DAMAGED (R109, R111). -/
theorem abortDamaged_eq {s : State} (hop : s.jc.op = .abort) (applied : Nat) (ls : List Nat) (n : Nat) :
    s.abortDamaged applied ls n = { s with
      jc := { s.jc.ended .damaged s.jc.epoch s.jc.fill with
        lastOp := some ⟨.abort, .damaged, s.jc.epoch, s.jc.epoch, applied, ls, n⟩ }
      attn := { s.attn with pending := s.attn.pending ||| 1 } } := by
  rw [State.abortDamaged, State.opRecord, hop]
  rfl

/-- The epoch advance that begins behind a completion is the one that the part before it gives (R4, R100). -/
theorem advances_after {s u t : State} {g : Geometry} (hn : s.nowHas u .journal none) (ha : u.anchors = s.anchors)
    (hm : u.memSize = s.memSize) (he : u.jc.epoch = s.jc.epoch) (hc : u.store.active = s.store.active)
    (h : u.advances t g) : s.advances t g := by
  unfold State.advances at h ⊢
  rw [he, hc] at h
  exact beginsAnchor_after hn ha hm h

/-! ## The end of a scan (R110, R111, R128 to R130) -/

theorem isDamage_iff {x : StopReason} : x.isDamage = true ↔ x = .readError ∨ x = .damageDetected := by
  simp [StopReason.isDamage]

/-- The part at the end of a scan, before what follows it: fill is the stop slot, and the filter is cleared (R128). -/
def State.scanned (s : State) (k : Nat) : State :=
  { s with jc := { s.jc with fill := k, scan := none }, filter := ⟨[], false⟩ }

/-- A scan's end in an ABORT (R110, R111). -/
theorem endScan_abort {s : State} (hop : s.jc.op = .abort) (why : StopReason) (cls : Option SlotClass)
    (k n line : Nat) : s.endScan why cls k n line
      = if why.isDamage = true then (s.scanned k).abortDamaged 0 (stopList why line).1 (stopList why line).2
        else (s.scanned k).startRollback := by
  rw [State.endScan]
  dsimp only
  rw [if_neg (by simp [hop])]
  rfl

/-- A scan's end in a recovery (R129, R130). -/
theorem endScan_recovery {s : State} {r : Report} (hop : s.jc.op = .recovery) (hr : s.jc.working = some r)
    (why : StopReason) (cls : Option SlotClass) (k n line : Nat) : s.endScan why cls k n line
      = let r' := { r with scanned := n, reason := why, cls := cls, stop := k }
        let v := (s.scanned k).setJc { (s.scanned k).jc with working := some r' }
        if why.isDamage = true then v.completeRecovery .damaged .damaged s.jc.epoch k
          { r' with lines := (stopList why line).1, further := (stopList why line).2 }
        else if k = 0 then v.completeRecovery .cleanStart .active s.jc.epoch 0 r'
        else v.startRollback := by
  rw [State.endScan]
  dsimp only
  rw [if_pos (by simp [hop]), workingReport_of (by exact hr)]
  rfl

/-- All that the end of a scan does, where the arbiter `A` has taken the completed read back. -/
theorem endScan_ends {s : State} {A b : Arbiter} {g : Geometry} {why : StopReason} {cls : Option SlotClass}
    {k n line : Nat} {ls : List Nat} {m : Nat} (hn : s.nowHas (s.setArb A) .journal none) (hg : s.jc.geom = some g)
    (hs : s.store.geom = some g) (hw : s.eightWindows) (hls : why.isDamage = true → stopList why line = (ls, m)) :
    s.scanEnds (((s.setArb A).endScan why cls k n line).settle b) g why cls k n ls m := by
  have hnow {v : State} (hv : v.arb = A) : s.nowHas (v.settle b) .journal none := nowHas_settle (nowHas_arb hn hv)
  refine ⟨fun hd hop => ?_, fun r hd hop hr => ?_, fun hd hk hop => ?_, fun r hd hk hop hr => ?_, fun hd hk hop => ?_,
    fun r hd hk hop hr => ?_⟩
  · rw [endScan_abort (s := s.setArb A) hop, if_pos (isDamage_iff.2 hd), hls (isDamage_iff.2 hd),
      abortDamaged_eq (s := (s.setArb A).scanned k) hop]
    refine ⟨?_, hnow rfl⟩
    conv_lhs => rw [settle_frame]
    rfl
  · rw [endScan_recovery (s := s.setArb A) hop hr]
    dsimp only
    rw [if_pos (isDamage_iff.2 hd), hls (isDamage_iff.2 hd), completeRecovery_eq (by exact hs)]
    refine ⟨?_, hnow rfl⟩
    conv_lhs => rw [settle_frame]
    simp only [if_pos hd]
    rfl
  · rw [endScan_abort (s := s.setArb A) hop, if_neg (mt isDamage_iff.1 hd)]
    obtain ⟨ht, hreq⟩ := (startRollback_begins ((s.setArb A).scanned k) g hg hw.1 b).1 (by exact hk.ne')
    exact ⟨ht, nowHas_after hn hreq⟩
  · rw [endScan_recovery (s := s.setArb A) hop hr]
    dsimp only
    rw [if_neg (mt isDamage_iff.1 hd), if_neg hk.ne']
    obtain ⟨ht, hreq⟩ := (startRollback_begins (((s.setArb A).scanned k).setJc { ((s.setArb A).scanned k).jc with
      working := some { r with scanned := n, reason := why, cls := cls, stop := k } }) g hg hw.1 b).1 (by exact hk.ne')
    exact ⟨ht, nowHas_after hn hreq⟩
  · rw [endScan_abort (s := s.setArb A) hop, if_neg (mt isDamage_iff.1 hd)]
    obtain ⟨t, ht, hframe, hadv⟩ := (startRollback_begins ((s.setArb A).scanned k) g hg hw.1 b).2 hk
    rw [ht]
    subst hk
    exact ⟨hframe, advances_after hn rfl rfl rfl rfl hadv⟩
  · rw [endScan_recovery (s := s.setArb A) hop hr]
    dsimp only
    rw [if_neg (mt isDamage_iff.1 hd), if_pos hk, completeRecovery_eq (by exact hs)]
    refine ⟨?_, hnow rfl⟩
    conv_lhs => rw [settle_frame]
    simp only [if_neg hd, hk]
    rfl

/-- The release of a completed operation is a change of the arbiter alone (R172). -/
theorem release_eq (s : State) : s.release = s.setArb { s.arb with current := none } := rfl

/-- The header of a failed record, as the statement words it (R127). -/
theorem headerReads_iff {bs : List Byte} {k : Nat} {e : Word} : headerReads bs k e = true
    ↔ slotKind bs = 0x01 ∧ slotEpoch bs = e.toNat ∧ slotIndex bs = k := by
  simp only [headerReads, Bool.and_eq_true, decide_eq_true_iff, and_assoc]
  rfl

/-- Settles O45: what a scanned slot is decides how the scan goes on, or how it ends. -/
theorem theScanTakesASlot : Obligations.TheScanTakesASlot := by
  intro s op merr sc g bs cls h hsc hg hs hw hop hbs hcls reads
  have hn := inPort_release h
  have hgeom : s.release.activeGeom = g := activeGeom_of (u := s.release) hg
  have hclass : classify bs merr sc.pos s.release.jc.epoch = cls := hcls.symm
  have hreads : headerReads bs sc.pos s.release.jc.epoch = true ↔ reads := headerReads_iff
  refine ⟨_, exec_scanReadComplete h hsc merr, ?_⟩
  rw [← hbs, State.scanSlot, hgeom, hclass]
  dsimp only
  refine ⟨fun hc hk => ?_, fun hc hk => ?_, fun hc hr hk => ?_, fun hc hr hk => ?_, fun hc => ?_, fun hc => ?_⟩
  · rw [if_pos hc, scanTo_below (s := s.release) hg hk]
    refine ⟨?_, nowHas_settle (nowHas_after hn (nowHas_request rfl))⟩
    conv_lhs => rw [settle_frame]
    rfl
  · have hend : s.release.scanTo (sc.pos + 1) = s.release.endScan .endOfJournal none (sc.pos + 1) (sc.pos + 1) 0 := by
      rw [State.scanTo, hgeom, if_neg (by omega)]
      rfl
    rw [if_pos hc, hend]
    exact endScan_ends hn hg hs hw (by simp [StopReason.isDamage])
  · rw [if_neg (by simp [hc]), if_pos ⟨hc, hreads.2 hr⟩, if_pos hk]
    refine ⟨?_, nowHas_settle (nowHas_after hn ?_)⟩
    · conv_lhs => rw [settle_frame]
      rfl
    · rw [State.lookAhead, hgeom]
      exact nowHas_request rfl
  · rw [if_neg (by simp [hc]), if_pos ⟨hc, hreads.2 hr⟩, if_neg (by omega)]
    exact endScan_ends hn hg hs hw (by simp [StopReason.isDamage])
  · rw [if_neg (by simp [hc]), if_neg (by simp [hc]), hc]
    exact endScan_ends hn hg hs hw (fun _ => rfl)
  · have hcur : cls ≠ .current := by rintro rfl; simp at hc
    have hread : cls ≠ .unreadable := by rintro rfl; simp at hc
    have hahead : ¬ (cls = .checkFailed ∧ headerReads bs sc.pos s.release.jc.epoch = true) := by
      rw [hreads]
      rintro ⟨rfl, hr⟩
      simp [hr] at hc
    rw [if_neg hcur, if_neg hahead, stopReason, if_neg hread]
    exact endScan_ends hn hg hs hw (by simp [StopReason.isDamage])

/-- Settles O46: the class of the slot behind decides the stop. -/
theorem theLookAheadDecides : Obligations.TheLookAheadDecides := by
  intro s op merr sc g h hsc hg hs hw hop cls
  have hn := inPort_release h
  refine ⟨_, exec_lookAheadReadComplete h hsc merr, fun hc => ?_, fun hc => ?_⟩
  · rw [State.lookAheadSlot, if_pos (by exact hc)]
    exact endScan_ends hn hg hs hw (fun _ => rfl)
  · rw [State.lookAheadSlot, if_neg (by exact hc)]
    exact endScan_ends hn hg hs hw (by simp [StopReason.isDamage])

/-! ## The rollback (R105 to R107, R109, R130) -/

/-- Where the rollback goes, where the arbiter `A` has taken the completed operation back. -/
theorem rollTo_goes {s : State} {A b : Arbiter} {g : Geometry} {rb : Rollback}
    (hn : s.nowHas (s.setArb A) .journal none) (hg : s.jc.geom = some g) (hs : s.store.geom = some g)
    (hw : s.eightWindows) : s.rollbackGoesTo (((s.setArb A).rollTo rb).settle b) g rb := by
  have hnow {v : State} (hv : v.arb = A) : s.nowHas (v.settle b) .journal none := nowHas_settle (nowHas_arb hn hv)
  have hgeom : (s.setArb A).activeGeom = g := activeGeom_of (u := s.setArb A) hg
  let v : State := (s.setArb A).setJc { s.jc with rollback := some rb }
  have hends (hp : rb.pos < 0) : (s.setArb A).rollTo rb = v.endRollback rb := by
    rw [State.rollTo, if_neg (by omega)]
    rfl
  refine ⟨fun hp => ?_, fun hp ha => ?_, fun hp ha hop => ?_, fun r hp ha hop hr => ?_⟩
  · rw [State.rollTo, if_pos hp, hgeom]
    refine ⟨?_, nowHas_settle (nowHas_after hn (nowHas_request rfl))⟩
    conv_lhs => rw [settle_frame]
    rfl
  · rw [hends hp, State.endRollback, if_pos ha]
    obtain ⟨t, ht, hframe, hadv⟩ := startAdvance_begins v g hg hw.1 b
    rw [ht]
    exact ⟨hframe, advances_after hn rfl rfl rfl rfl hadv⟩
  · rw [hends hp, State.endRollback, if_neg ha, if_neg (by simp [v, hop]), abortDamaged_eq (s := v) hop]
    refine ⟨?_, hnow rfl⟩
    conv_lhs => rw [settle_frame]
    rfl
  · rw [hends hp, State.endRollback, if_neg ha, if_pos (by exact hop), workingReport_of (s := v) hr,
      completeRecovery_eq (s := v) hs]
    refine ⟨?_, hnow rfl⟩
    conv_lhs => rw [settle_frame]
    rfl

/-- The lines a record may be written back to (R106). -/
theorem restorable_iff {s : State} {g : Geometry} (hg : s.jc.geom = some g) (line : Nat) : s.restorable line = true
    ↔ line < s.memSize.lines - 4 ∧ ¬ (g.base ≤ line ∧ line < g.base + (g.count * 5 + 3) / 4) := by
  simp only [State.restorable, activeGeom_of hg, Geometry.holdsLine, Bool.and_eq_true, Bool.not_eq_true',
    Bool.and_eq_false_imp, decide_eq_true_iff, decide_eq_false_iff_not, not_and]
  rfl

/-- A slot's image is 64 bytes (R21). -/
theorem slotImage_length {bs : List Byte} (h : bs.length = 80) : (slotImage bs).length = 64 := by
  simp [slotImage, slice_length, h]

/-- Settles O47: an applicable record is written back; any other is listed or counted, and the rollback moves down. -/
theorem theRollbackTakesASlot : Obligations.TheRollbackTakesASlot := by
  intro s op rb g hrb hg hs hw hop hpos
  refine ⟨fun merr bs cls h hbs hcls => ?_, fun h hl => ?_⟩
  · intro line applicable
    have hn := inPort_release h
    have hclass : classify bs merr rb.pos.toNat s.release.jc.epoch = cls := hcls.symm
    have happ : cls = .current ∧ s.release.restorable (slotLine bs) = true ↔ applicable :=
      and_congr_right' (restorable_iff (s := s.release) hg line)
    refine ⟨_, exec_rollbackReadComplete h hrb merr, ?_⟩
    rw [← hbs, State.rollbackSlot, hclass]
    dsimp only
    refine ⟨fun ha hwords => ?_, fun hc => ?_, fun ha hc hline => ?_, fun ha hc hline hfree => ?_,
      fun ha hc hline hfull => ?_⟩
    · have himage : (slotImage bs).length = 64 := slotImage_length (by simp [hbs, State.bytesRead, hwords])
      rw [if_pos (happ.2 ha), MemOp.writes, himage]
      refine ⟨?_, nowHas_settle (nowHas_after hn (nowHas_request rfl))⟩
      conv_lhs => rw [settle_frame]
      rfl
    · rw [if_neg (by simp [hc]), if_pos hc]
      exact rollTo_goes hn hg hs hw
    · rw [if_neg (mt happ.1 ha), if_neg hc, Rollback.listLine, if_pos hline]
      exact rollTo_goes hn hg hs hw
    · rw [if_neg (mt happ.1 ha), if_neg hc, Rollback.listLine, if_neg hline, if_pos hfree]
      exact rollTo_goes hn hg hs hw
    · rw [if_neg (mt happ.1 ha), if_neg hc, Rollback.listLine, if_neg hline, if_neg (by omega)]
      exact rollTo_goes hn hg hs hw
  · have hgoes := rollTo_goes (s := s.setMem (s.mem.writeCells op.addr op.cells))
      (rb := { rb with applied := rb.applied + 1, pos := rb.pos - 1 }) (b := s.arb) (inPort_release h) hg hs hw
    refine ⟨_, exec_rollbackLineWriteComplete h hrb, ?_⟩
    simp only [State.settle_untouched, State.rollTo_untouched, storeCells_mem, State.release_untouched]
    exact ⟨storedBy_storeCells (by omega), hgoes⟩

end Sys2Proof.Machine
end

section
/-! PROOFS. The records in memory: a slot's fields and its class, and an anchor copy on its way into memory and back
(R21 to R24, R84, R87, R176). -/
namespace Sys2Proof.Machine

open Sys2Proof

/-! ## Numbers and the bytes that spell them (R176) -/

/-- The low bytes of a number spell its remainder. -/
theorem fromLE_leBytes (n v : Nat) : fromLE (leBytes n v) = v % 256 ^ n := by
  induction n generalizing v with
  | zero => simp [leBytes, fromLE, Nat.mod_one]
  | succ n ih =>
    rw [leBytes, fromLE, ih, pow_succ', Nat.mod_mul, BitVec.toNat_ofNat]

/-- A word is spelt by its four bytes. -/
theorem fromLE_leBytes_word (w : Word) : fromLE (leBytes 4 w.toNat) = w.toNat := by
  rw [fromLE_leBytes]
  exact Nat.mod_eq_of_lt w.isLt

/-- Bytes behind others, by their distance from them. -/
theorem slice_append_right {xs ys : List Byte} {k n : Nat} (h : xs.length ≤ k) :
    slice (xs ++ ys) k n = slice ys (k - xs.length) n := by
  rw [slice, slice, List.drop_append, List.drop_eq_nil_of_le h, List.nil_append]

/-- Bytes before others. -/
theorem slice_append_left {xs ys : List Byte} {k n : Nat} (h : k + n ≤ xs.length) :
    slice (xs ++ ys) k n = slice xs k n := by
  rw [slice, slice, List.drop_append_of_le_length (by omega), List.take_append_of_le_length (by simp; omega)]

/-! ## Slots (R21 to R24) -/

theorem slotHeader_length (kind : Byte) (window index line : Nat) (epoch : Word) :
    (slotHeader kind window index line epoch).length = 12 := by
  simp [slotHeader]

/-- A slot is its header, its check code and its image. -/
theorem slotBytes_slices {header image : List Byte} (hh : header.length = 12) (hi : image.length = 64) :
    slice (slotBytes header image) 0 12 = header ∧ slotImage (slotBytes header image) = image
      ∧ slotCheck (slotBytes header image) = (crc32 (header ++ image)).toNat := by
  have hcheck : slice (slotBytes header image) 12 4 = leBytes 4 (crc32 (header ++ image)).toNat := by
    rw [slotBytes, List.append_assoc, slice_append_right (by omega), hh,
      slice_append_left (by simp), slice_all (by simp)]
  refine ⟨?_, ?_, ?_⟩
  · rw [slotBytes, List.append_assoc, slice_append_left (by omega), slice_all hh]
  · have hfront : (header ++ leBytes 4 (crc32 (header ++ image)).toNat).length = 16 := by simp [hh]
    rw [slotImage, slotBytes, slice_append_right hfront.le, hfront, slice_all hi]
  · rw [slotCheck, hcheck, fromLE_leBytes_word]

/-- A slot's fields are those of its header (R176). -/
theorem slotBytes_fields {kind : Byte} {window index line : Nat} {epoch : Word} {image : List Byte}
    (hindex : index < 65536) (hline : line < 4294967296) :
    let bs := slotBytes (slotHeader kind window index line epoch) image
    slotKind bs = kind ∧ slotIndex bs = index ∧ slotLine bs = line ∧ slotEpoch bs = epoch.toNat := by
  have hi : fromLE (leBytes 2 index) = index := by rw [fromLE_leBytes]; exact Nat.mod_eq_of_lt hindex
  have hl : fromLE (leBytes 4 line) = line := by rw [fromLE_leBytes]; exact Nat.mod_eq_of_lt hline
  exact ⟨rfl, hi, hl, fromLE_leBytes_word epoch⟩

/-- A slot's check code is good as it is written (R22). -/
theorem slotGood_slotBytes {header image : List Byte} (hh : header.length = 12) (hi : image.length = 64) :
    slotGood (slotBytes header image) = true := by
  obtain ⟨h1, h2, h3⟩ := slotBytes_slices hh hi
  simp [slotGood, h1, h2, h3]

/-- The class of a slot as it was written (R24). -/
theorem classify_slotBytes {kind : Byte} {window index line : Nat} {epoch : Word} {image : List Byte} {k : Nat}
    {e : Word} (hi : image.length = 64) (hindex : index < 65536) (hline : line < 4294967296) :
    classify (slotBytes (slotHeader kind window index line epoch) image) false k e
      = if (kind ≠ kindCapture ∧ kind ≠ kindEmpty) ∨ index ≠ k then .foreign
        else if kind = kindEmpty then .emptySlot
        else if epoch ≠ e then .otherEpoch
        else .current := by
  obtain ⟨h1, h2, -, h4⟩ := slotBytes_fields (kind := kind) (window := window) (epoch := epoch) (image := image)
    hindex hline
  rw [classify, slotGood_slotBytes (slotHeader_length ..) hi, h1, h2, h4]
  simp [BitVec.toNat_inj]

theorem classify_captureRecord {window index line : Nat} {epoch : Word} {image : List Byte} {k : Nat} {e : Word}
    (hi : image.length = 64) (hindex : index < 65536) (hline : line < 4294967296) :
    classify (captureRecord window index line epoch image) false k e
      = if k ≠ index then .foreign else if e ≠ epoch then .otherEpoch else .current := by
  rw [captureRecord, classify_slotBytes hi hindex hline]
  simp [kindCapture, kindEmpty, eq_comm]

theorem classify_emptyRecord {index k : Nat} {e : Word} (hindex : index < 65536) :
    classify (emptyRecord index) false k e = if k ≠ index then .foreign else .emptySlot := by
  rw [emptyRecord, classify_slotBytes (by simp) hindex (by omega)]
  simp [kindCapture, kindEmpty, eq_comm]

/-- The tests of R24 on 80 bytes, in their order. -/
theorem classify_tests {bs : List Byte} (k : Nat) (e : Word) (h : bs.length = 80) :
    let good := fromLE ((bs.drop 12).take 4) = (crc32 (bs.take 12 ++ bs.drop 16)).toNat
    let index := fromLE ((bs.drop 2).take 2)
    let epoch := fromLE ((bs.drop 8).take 4)
    classify bs false k e
      = if ¬ good then .checkFailed
        else if (bs.head? ≠ some 0x01 ∧ bs.head? ≠ some 0x02) ∨ index ≠ k then .foreign
        else if bs.head? = some 0x02 then .emptySlot
        else if epoch ≠ e.toNat then .otherEpoch
        else .current := by
  intro good index epoch
  have hgood : slotGood bs = true ↔ good := by
    have himage : slotImage bs = bs.drop 16 := by
      rw [slotImage, slice, List.take_of_length_le (by simp; omega)]
    simp only [slotGood, decide_eq_true_iff, himage, slotCheck]
    exact eq_comm
  have hkind : bs.head? = some (slotKind bs) := by
    cases bs with
    | nil => simp at h
    | cons b bs => rfl
  simp only [hkind, Option.some.injEq, ne_eq]
  by_cases hg : good
  · rw [classify, if_neg (by simp), if_neg (by simp [hgood.2 hg]), if_neg (not_not.2 hg)]
    simp only [ne_eq]
    rfl
  · rw [classify, if_neg (by simp), if_pos (by simp [Bool.eq_false_iff.2 (mt hgood.1 hg)]), if_pos hg]

/-! ## Anchor copies (R84, R87) -/

/-- A list is read whole where each of its members is. -/
theorem mapM_eq_some {α β : Type} {f : α → Option β} {g : α → β} {xs : List α} (h : ∀ x ∈ xs, f x = some (g x)) :
    xs.mapM f = some (xs.map g) := by
  induction xs with
  | nil => rfl
  | cons x xs ih =>
    rw [List.mapM_cons, h x (by simp), ih fun y hy => h y (by simp [hy])]
    rfl

/-- A list is not read where one of its members is not. -/
theorem mapM_eq_none {α β : Type} {f : α → Option β} {xs : List α} {x : α} (hx : x ∈ xs) (h : f x = none) :
    xs.mapM f = none := by
  induction xs with
  | nil => simp at hx
  | cons y ys ih =>
    rw [List.mapM_cons]
    obtain rfl | hx := List.mem_cons.1 hx
    · rw [h]
      rfl
    · rw [ih hx]
      cases f y <;> rfl

/-- A byte of a list is what a slice of one byte holds. -/
theorem getD_of_slice {bs : List Byte} {k : Nat} {b : Byte} (h : slice bs k 1 = [b]) : bs.getD k 0 = b := by
  have hk : k < bs.length := by
    by_contra hk
    rw [slice, List.drop_eq_nil_of_le (by omega)] at h
    simp at h
  have := slice_one hk
  rw [h] at this
  simpa using this

/-- Window entry n among the entries of a table (R176). -/
theorem drop_windows {ws : List Window} {n : Nat} (h : n < ws.length) :
    (ws.map Window.bytes).flatten.drop (8 * n) = ws[n].bytes ++ ((ws.drop (n + 1)).map Window.bytes).flatten := by
  induction ws generalizing n with
  | nil => simp at h
  | cons w ws ih =>
    have hw : w.bytes.length = 8 := by simp [Window.bytes]
    cases n with
    | zero => simp
    | succ n =>
      have := ih (n := n) (by simpa using h)
      rw [List.map_cons, List.flatten_cons, Nat.mul_succ, Nat.add_comm, ← List.drop_drop, List.drop_left' hw, this]
      simp

/-- A part of window entry n of a copy (R176). -/
theorem slice_window {pre post : List Byte} {ws : List Window} {n j m : Nat} (h : n < ws.length) (hj : j + m ≤ 8) :
    slice (pre ++ ((ws.map Window.bytes).flatten ++ post)) (pre.length + 8 * n + j) m = slice ws[n].bytes j m := by
  have hw : ws[n].bytes.length = 8 := by simp [Window.bytes]
  have hlen := windowBytes_length ws
  rw [slice_append_right (by omega), show pre.length + 8 * n + j - pre.length = 8 * n + j by omega,
    slice, ← List.drop_drop, List.drop_append_of_le_length (by omega), drop_windows h, List.append_assoc,
    ← slice, slice_append_left (by omega)]

/-- A window whose lines fit their fields is read back as it was written (R176). -/
theorem windowAt_of_bytes {pre post : List Byte} {ws : List Window} {n : Nat} (h : n < ws.length)
    (hpre : pre.length = 32) (hfirst : ws[n].first < 16777216) (hlast : ws[n].last < 4294967296) :
    windowAt (pre ++ ((ws.map Window.bytes).flatten ++ post)) n = some ws[n] := by
  have at_ {j m : Nat} (hj : j + m ≤ 8) := slice_window (pre := pre) (post := post) h hj
  simp only [hpre] at at_
  have hp : (pre ++ ((ws.map Window.bytes).flatten ++ post)).getD (32 + 8 * n + 3) 0 = windowPolicyCode ws[n].policy :=
    getD_of_slice (at_ (by omega))
  have hf : fromLE (slice ws[n].bytes 0 3) = ws[n].first := by
    have : slice ws[n].bytes 0 3 = leBytes 3 ws[n].first := rfl
    rw [this, fromLE_leBytes]
    exact Nat.mod_eq_of_lt hfirst
  have hl : fromLE (slice ws[n].bytes 4 4) = ws[n].last := by
    have : slice ws[n].bytes 4 4 = leBytes 4 ws[n].last := rfl
    rw [this, fromLE_leBytes]
    exact Nat.mod_eq_of_lt hlast
  have hcode (p : Option Policy) : windowPolicyOfCode (windowPolicyCode p) = some p := by
    cases p with
    | none => rfl
    | some p => cases p <;> rfl
  have h0 := at_ (j := 0) (m := 3) (by omega)
  rw [Nat.add_zero] at h0
  rw [windowAt, hp, hcode, h0, at_ (by omega), hf, hl]
  rfl

/-- The 32 bytes of a copy before its window table (R176). -/
def Anchor.head (a : Anchor) : List Byte :=
  leBytes 4 signature ++ leBytes 4 a.seq.toNat ++ leBytes 4 a.epoch.toNat
    ++ [a.phase.code, a.setup.default.code, a.setup.action.code, a.setup.mode.code]
    ++ leBytes 4 a.geom.base ++ leBytes 4 a.geom.count ++ leBytes 4 a.setup.alert ++ leBytes 4 a.memLines

theorem Anchor.head_length (a : Anchor) : a.head.length = 32 := by simp [Anchor.head]

theorem Anchor.bytes_eq (a : Anchor) :
    a.bytes = a.head ++ ((a.setup.windows.map Window.bytes).flatten ++ leBytes 4 (crc32 a.body).toNat) := by
  simp [Anchor.bytes, Anchor.body, Anchor.head]

/-- The numbers of an anchor fit the fields of a copy (R84, R176). -/
def Anchor.fitsFields (a : Anchor) : Prop :=
  a.geom.base < 4294967296 ∧ a.geom.count < 4294967296 ∧ a.setup.alert < 4294967296 ∧ a.memLines < 4294967296
    ∧ a.setup.windows.length = 8 ∧ ∀ w ∈ a.setup.windows, w.first < 16777216 ∧ w.last < 4294967296

/-- A field of four bytes is read back (R176). -/
theorem fromLE_field {v : Nat} (h : v < 4294967296) : fromLE (leBytes 4 v) = v := by
  rw [fromLE_leBytes]
  exact Nat.mod_eq_of_lt h

/-- The enumerated fields are read back (R176). -/
theorem Anchor.codes_read (a : Anchor) :
    Phase.ofCode (a.bytes.getD 12 0) = some a.phase ∧ Policy.ofCode (a.bytes.getD 13 0) = some a.setup.default
      ∧ FenceAction.ofCode (a.bytes.getD 14 0) = some a.setup.action
      ∧ FenceMode.ofCode (a.bytes.getD 15 0) = some a.setup.mode := by
  have h : a.bytes.getD 12 0 = a.phase.code ∧ a.bytes.getD 13 0 = a.setup.default.code
      ∧ a.bytes.getD 14 0 = a.setup.action.code ∧ a.bytes.getD 15 0 = a.setup.mode.code := ⟨rfl, rfl, rfl, rfl⟩
  rw [h.1, h.2.1, h.2.2.1, h.2.2.2]
  refine ⟨?_, ?_, ?_, ?_⟩
  · cases a.phase <;> rfl
  · cases a.setup.default <;> rfl
  · cases a.setup.action <;> rfl
  · cases a.setup.mode <;> rfl

/-- The window table is read back (R176). -/
theorem Anchor.windows_read {a : Anchor} (h : a.fitsFields) :
    (List.range 8).mapM (windowAt a.bytes) = some a.setup.windows := by
  obtain ⟨-, -, -, -, hlen, hw⟩ := h
  have hat : ∀ n ∈ List.range 8, windowAt a.bytes n = some (a.setup.windows.getD n ⟨0, 0, none⟩) := by
    intro n hn
    have hn' : n < a.setup.windows.length := by rw [hlen]; exact List.mem_range.1 hn
    obtain ⟨hfirst, hlast⟩ := hw _ (List.getElem_mem hn')
    rw [a.bytes_eq, windowAt_of_bytes hn' a.head_length hfirst hlast, List.getD_eq_getElem _ _ hn']
  rw [mapM_eq_some hat]
  congr 1
  refine List.ext_getElem (by simp [hlen]) fun n h1 h2 => ?_
  simp [List.getElem?_eq_getElem h2]

/-- The fields of a copy are those of the anchor it was written from (R176). -/
theorem anchorFields_bytes {a : Anchor} (h : a.fitsFields) : anchorFields a.bytes = some a := by
  obtain ⟨hphase, hdefault, haction, hmode⟩ := a.codes_read
  have hwindows := Anchor.windows_read h
  obtain ⟨hbase, hcount, halert, hmem, -, -⟩ := h
  have hseq : fromLE (slice a.bytes 4 4) = a.seq.toNat := fromLE_leBytes_word a.seq
  have hepoch : fromLE (slice a.bytes 8 4) = a.epoch.toNat := fromLE_leBytes_word a.epoch
  have hbase' : fromLE (slice a.bytes 16 4) = a.geom.base := fromLE_field hbase
  have hcount' : fromLE (slice a.bytes 20 4) = a.geom.count := fromLE_field hcount
  have halert' : fromLE (slice a.bytes 24 4) = a.setup.alert := fromLE_field halert
  have hmem' : fromLE (slice a.bytes 28 4) = a.memLines := fromLE_field hmem
  simp only [anchorFields, hphase, hdefault, haction, hmode, hwindows, hseq, hepoch, hbase', hcount', halert', hmem',
    BitVec.ofNat_toNat, BitVec.setWidth_eq]
  rfl

/-- The tests of a copy's fields, as the statement words them (R87). -/
theorem Anchor.legal_iff {a : Anchor} {m : MemSize} : a.legal m = true
    ↔ a.memLines = m.lines ∧ (a.epoch = 0 ↔ a.phase = .scrubbing) ∧ 16 ≤ a.geom.count ∧ a.geom.count ≤ 49152
      ∧ a.geom.base + (a.geom.count * 5 + 3) / 4 ≤ m.lines - 4 ∧ a.setup.alert ≤ a.geom.count := by
  have hfits : a.geom.fits m = true ↔ a.geom.base + (a.geom.count * 5 + 3) / 4 ≤ m.lines - 4 :=
    fits_iff.trans not_lt
  have hphase : (match a.phase with
      | .opened => decide (a.epoch ≠ 0)
      | .scrubbing => decide (a.epoch = 0)) = true ↔ (a.epoch = 0 ↔ a.phase = .scrubbing) := by
    cases a.phase <;> simp
  simp only [Anchor.legal, Bool.and_eq_true, decide_eq_true_iff, hfits, countLegal_iff, and_assoc]
  exact and_congr_right' (and_congr_left' hphase)

/-- A copy is read back with its check code as it was written (R84, R87). -/
theorem readAnchor_bytes {a : Anchor} (h : a.fitsFields) (m : MemSize) :
    readAnchor a.bytes false m = if a.legal m = true then some a else none := by
  have hbody : a.body.length = 96 := by
    have := windowBytes_length a.setup.windows
    simp only [Anchor.body, List.length_append, leBytes_length, this, h.2.2.2.2.1, List.length_cons, List.length_nil]
  have hsig : fromLE (slice a.bytes 0 4) = signature := by
    have : slice a.bytes 0 4 = leBytes 4 signature := rfl
    rw [this]
    rfl
  have hcrc : (crc32 (slice a.bytes 0 96)).toNat = fromLE (slice a.bytes 96 4) := by
    rw [Anchor.bytes, slice_append_left (by omega), slice_all hbody, slice_append_right (by omega), hbody,
      slice_all (by simp), fromLE_leBytes_word]
  rw [readAnchor, if_neg (by simp), if_neg (not_not.2 hsig), if_neg (not_not.2 hcrc), anchorFields_bytes h]
  rfl

/-- With another signature a copy is INVALID (R87). -/
theorem readAnchor_of_signature {bs : List Byte} (hl : 4 ≤ bs.length) (h : bs.take 4 ≠ [0xE5, 0x91, 0x3C, 0x6A])
    (m : MemSize) : readAnchor bs false m = none := by
  rw [readAnchor, if_neg (by simp), if_pos]
  intro he
  refine h ?_
  have hb := leBytes_fromLE (slice bs 0 4)
  rw [he, slice_length (by omega)] at hb
  exact hb.symm

/-- With a check code that does not match a copy is INVALID (R87). -/
theorem readAnchor_of_check {bs : List Byte} (hl : bs.length = 100)
    (h : fromLE (bs.drop 96) ≠ (crc32 (bs.take 96)).toNat) (m : MemSize) : readAnchor bs false m = none := by
  have hcrc : (crc32 (slice bs 0 96)).toNat ≠ fromLE (slice bs 96 4) := by
    rw [slice, slice, List.take_of_length_le (l := bs.drop 96) (by simp [hl])]
    exact h.symm
  rw [readAnchor, if_neg (by simp), if_pos hcrc]
  exact ite_self none

/-- A listed phase's code is 1 or 2 (R176). -/
theorem Phase.code_of_ofCode {b : Byte} {x : Phase} (h : Phase.ofCode b = some x) : 1 ≤ b.toNat ∧ b.toNat ≤ 2 := by
  unfold Phase.ofCode at h
  split at h
  · next hb => subst hb; decide
  · split at h
    · next hb => subst hb; decide
    · cases h

/-- With an unlisted code in an enumerated field a copy has no fields (R87, R176). -/
theorem anchorFields_of_unlisted {bs : List Byte}
    (h : 3 ≤ (bs.getD 12 0).toNat ∨ bs.getD 12 0 = 0 ∨ 4 ≤ (bs.getD 13 0).toNat ∨ bs.getD 13 0 = 0
      ∨ 2 ≤ (bs.getD 14 0).toNat ∨ 2 ≤ (bs.getD 15 0).toNat ∨ ∃ n, n < 8 ∧ 4 ≤ (bs.getD (32 + 8 * n + 3) 0).toNat) :
    anchorFields bs = none := by
  by_contra hne
  obtain ⟨a, ha⟩ := Option.ne_none_iff_exists'.1 hne
  simp only [anchorFields, Option.bind_eq_bind, Option.bind_eq_some_iff] at ha
  obtain ⟨phase, hphase, default, hdefault, action, haction, mode, hmode, windows, hwindows, -⟩ := ha
  have h12 := Phase.code_of_ofCode hphase
  have h13 : 1 ≤ (bs.getD 13 0).toNat ∧ (bs.getD 13 0).toNat ≤ 3 := by
    by_contra hn
    rw [Policy.ofCode_eq, if_neg hn] at hdefault
    cases hdefault
  have h14 : (bs.getD 14 0).toNat ≤ 1 := by
    by_contra hn
    rw [FenceAction.ofCode_eq, if_neg hn] at haction
    cases haction
  have h15 : (bs.getD 15 0).toNat ≤ 1 := by
    by_contra hn
    rw [FenceMode.ofCode_eq, if_neg hn] at hmode
    cases hmode
  obtain h | h | h | h | h | h | ⟨n, hn, h⟩ := h
  · omega
  · rw [h] at h12
    exact absurd h12.1 (by decide)
  · omega
  · rw [h] at h13
    exact absurd h13.1 (by decide)
  · omega
  · omega
  · have hnone : windowAt bs n = none := by
      rw [windowAt, windowPolicyOfCode_eq, if_neg (by omega)]
      rfl
    rw [mapM_eq_none (List.mem_range.2 hn) hnone] at hwindows
    cases hwindows

theorem readAnchor_of_unlisted {bs : List Byte} (h : anchorFields bs = none) (m : MemSize) :
    readAnchor bs false m = none := by
  rw [readAnchor, h]
  simp

/-- Settles O48: each record is read back field by field, and the tests are made in their order. -/
theorem theRecordsInMemoryReadBackAsWritten : Obligations.TheRecordsInMemoryReadBackAsWritten := by
  refine ⟨fun a m bs => ⟨fun hbase hcount halert hmem hlen hw => ⟨a.bytes_length hlen, ?_⟩, rfl,
      fun h hl => readAnchor_of_signature hl h m, fun hl h => readAnchor_of_check hl h m,
      fun _ h => readAnchor_of_unlisted (anchorFields_of_unlisted h) m⟩,
    fun window index line epoch image k e bs hi hw hindex hline => ?_, ?_⟩
  · rw [readAnchor_bytes ⟨hbase, hcount, halert, hmem, hlen, hw⟩]
    simp only [Anchor.legal_iff]
  · obtain ⟨-, himage, -⟩ := slotBytes_slices (slotHeader_length kindCapture window index line epoch) hi
    obtain ⟨-, -, hslot, -⟩ := slotBytes_fields (kind := kindCapture) (window := window) (epoch := epoch)
      (image := image) hindex hline
    exact ⟨captureRecord_length hi, hslot, himage, classify_captureRecord hi hindex hline, emptyRecord_length index,
      classify_emptyRecord hindex, rfl⟩
  · intro bs k e hl good index epoch
    have htests := classify_tests k e hl
    refine ⟨rfl, fun hg => ?_, fun hg h1 h2 => ?_, fun hg hk => ?_, fun hg hb hk => ?_, fun hg hb hk he => ?_,
      fun hg hb hk he => ?_⟩ <;> rw [htests]
    · rw [if_pos hg]
    · rw [if_neg (not_not.2 hg), if_pos (.inl ⟨h1, h2⟩)]
    · rw [if_neg (not_not.2 hg), if_pos (.inr hk)]
    · rw [if_neg (not_not.2 hg), if_neg (by simpa [hb] using hk), if_pos hb]
    · rw [if_neg (not_not.2 hg), if_neg (by simpa [hb] using hk), if_neg (by simp [hb]), if_pos he]
    · rw [if_neg (not_not.2 hg), if_neg (by simpa [hb] using hk), if_neg (by simp [hb]), if_neg (not_not.2 he)]

end Sys2Proof.Machine
end

section
/-! PROOFS. The Memory Arbiter: whom a free memory port goes to, how long an operation stays, and that no request waits
at an idle port but for a next one (R172, R174). -/
namespace Sys2Proof.Machine

open Sys2Proof

/-! ## Whom a grant goes to (R174) -/

/-- A requester is first, among all that are pending, among those that were pending before, or as one of two host ports
that came together (R81, R174, log 8). -/
def Arbiter.choosable (before now : Arbiter) (r : Requester) : Prop :=
  now.pointer.firstIn r now
    ∨ (before.request r ≠ none ∧ now.pointer.firstIn r before)
    ∨ ((before.current = none ∨ ∀ q, before.request q = none) ∧ now.capture = none ∧ now.journal = none
      ∧ now.a ≠ none ∧ now.b ≠ none ∧ (r = .portA ∨ r = .portB))

theorem grantChoices_choosable {before now : Arbiter} {g e : Requester} (h : grantChoices before now = some (g, e)) :
    before.choosable now g ∧ before.choosable now e := by
  obtain ⟨hg, rfl | he⟩ | ⟨hb, ha, hb', hc, hj, rfl, rfl⟩ := grantChoices_cases h
  · exact ⟨.inl (pick_first hg), .inl (pick_first hg)⟩
  · obtain ⟨op, hop⟩ := pick_pending he
    exact ⟨.inl (pick_first hg), .inr (.inl ⟨by simp [hop], pick_first he⟩)⟩
  · exact ⟨.inr (.inr ⟨hb, hc, hj, ha, hb', .inl rfl⟩), .inr (.inr ⟨hb, hc, hj, ha, hb', .inr rfl⟩)⟩

/-- A grant goes to a requester that may be chosen, and takes its request up (R174). -/
theorem grantNow_grants {b : Arbiter} {s : State} (h : s.arb.current = none) :
    (s.grantNow b).arb.current = none ∨ ∃ r op, b.choosable s.arb r ∧ s.arb.request r = some op
      ∧ (s.grantNow b).arb = { s.arb.setRequest r none with pointer := r, current := some (r, op) } := by
  unfold State.grantNow
  rw [h]
  dsimp only
  split
  · exact .inl h
  · next g e hge =>
    obtain ⟨hg, he⟩ := grantChoices_choosable hge
    obtain ⟨⟨opg, hopg⟩, ope, hope⟩ := grantChoices_pending hge
    refine .inr ?_
    split
    · exact ⟨g, opg, hg, hopg, by simp [Arbiter.grant_eq hopg]⟩
    · split
      · exact ⟨g, opg, hg, hopg, by simp [Arbiter.grant_eq hopg]⟩
      · exact ⟨e, ope, he, hope, by simp [Arbiter.grant_eq hope]⟩

theorem settle_grants {b : Arbiter} {s : State} (h : s.arb.current = none) :
    (s.settle b).arb.current = none ∨ ∃ r op, b.choosable s.arb r ∧ s.arb.request r = some op
      ∧ (s.settle b).arb = { s.arb.setRequest r none with pointer := r, current := some (r, op) } := by
  obtain e | ⟨-, -, e | e⟩ := settle_eq b s <;> rw [e]
  · exact grantNow_grants h
  · exact .inl h
  · exact grantNow_grants (s := s.asked) h

/-- A grant among the choosable, as the statement words it (R174). -/
theorem choosable_granted {before now : Arbiter} {r : Requester} {op : MemOp} (h : before.choosable now r) :
    let t : Arbiter := { now.setRequest r none with pointer := r, current := some (r, op) }
    now.pointer.firstIn r t
      ∨ (before.request r ≠ none ∧ now.pointer.firstIn r before)
      ∨ (((∀ q, before.request q = none) ∨ before.current = none)
        ∧ t.request .capture = none ∧ t.request .journal = none
        ∧ ((r = .portA ∧ t.request .portB ≠ none) ∨ (r = .portB ∧ t.request .portA ≠ none))) := by
  intro t
  obtain h | h | ⟨hb, hc, hj, ha, hb', rfl | rfl⟩ := h
  · refine .inl fun q hq => h q ?_
    cases q <;> cases r <;> simp_all [t, Arbiter.request, Arbiter.setRequest]
  · exact .inr (.inl h)
  · exact .inr (.inr ⟨hb.symm, hc, hj, .inl ⟨rfl, hb'⟩⟩)
  · exact .inr (.inr ⟨hb.symm, hc, hj, .inr ⟨rfl, ha⟩⟩)

/-! ## What an event leaves at the memory port before its grant (R172) -/

/-- The memory port and the grant pointer are the same in both. -/
def State.samePort (s t : State) : Prop := t.arb.current = s.arb.current ∧ t.arb.pointer = s.arb.pointer

theorem samePort_of_works {s t : State} (h : s.works t) : s.samePort t := by
  obtain ⟨u, hu, hd⟩ := h
  have := Decides_untouched hd
  exact ⟨by simp [this, hu.current], by simp [this, hu.pointer]⟩

theorem samePort_of_journalOnly {s t : State} (h : s.journalOnly t) : s.samePort t :=
  samePort_of_works (works_of_journalOnly h)

theorem samePort_trans {s t u : State} (h : s.samePort t) (h' : t.samePort u) : s.samePort u :=
  ⟨h'.1.trans h.1, h'.2.trans h.2⟩

theorem samePort_of_arb {s t : State} (h : t.arb = s.arb) : s.samePort t := by simp [State.samePort, h]

theorem request_samePort (s : State) (r : Requester) (op : MemOp) : s.samePort (s.request r op) := by
  cases r <;> exact ⟨rfl, rfl⟩

theorem refuseEntry_samePort (s : State) (e : Entry) (why : Reason) : s.samePort (s.refuseEntry e why) := by
  unfold State.refuseEntry
  dsimp only
  split
  · exact samePort_trans (samePort_of_arb (by simp)) (samePort_of_works (portResponded_works _ _))
  · exact samePort_of_arb rfl

theorem lineReadDone_samePort (s : State) (e : Entry) (op : MemOp) (merr : Bool) :
    s.samePort (s.lineReadDone e op merr) := by
  unfold State.lineReadDone
  split
  · exact refuseEntry_samePort s e _
  · exact samePort_of_arb rfl

theorem reserve_samePort (s : State) (e : Entry) (image : List Byte) : s.samePort (s.reserve e image) := by
  unfold State.reserve
  split
  · exact samePort_trans (samePort_of_arb rfl) (request_samePort _ _ _)
  · exact refuseEntry_samePort s e _

theorem takeEntry_samePort (s : State) (e : Entry) (rest : List Entry) : s.samePort (s.takeEntry e rest) := by
  unfold State.takeEntry
  split
  · exact ⟨by simp, by simp⟩
  · exact samePort_trans (samePort_of_arb rfl) (request_samePort _ _ _)

theorem pfailRises_samePort (s : State) : s.samePort s.pfailRises := by
  unfold State.pfailRises
  split
  · exact ⟨by simp, by simp⟩
  · exact samePort_of_arb rfl

/-- An event before its grant: the operation in progress stays, or the command is its completion (R172). -/
def State.completesInto (s : State) (c : Instr) (v : State) : Prop :=
  v.arb.pointer = s.arb.pointer ∧ (v.arb.current = s.arb.current
    ∨ (v.arb.current = none ∧ ∃ r op, s.arb.current = some (r, op) ∧ completionOf c = some op.purpose))

theorem completesInto_of_samePort {s v : State} {c : Instr} (h : s.samePort v) : s.completesInto c v :=
  ⟨h.2, .inl h.1⟩

theorem completesInto_of_release {s u v : State} {c : Instr} {r : Requester} {op : MemOp}
    (hcur : s.arb.current = some (r, op)) (hc : completionOf c = some op.purpose) (hu : u.arb = s.release.arb)
    (h : u.samePort v) : s.completesInto c v :=
  ⟨by rw [h.2, hu]; rfl, .inr ⟨by rw [h.1, hu]; rfl, r, op, hcur, hc⟩⟩

/-- From s to t a command leaves the arbiter, begins a reset, or ends with a grant (R172, R174). -/
def State.granted (s : State) (c : Instr) (t : State) : Prop :=
  t.arb = s.arb
    ∨ (t.arb.current = none ∧ t.grantsMade ∧ ∃ cut, c = .powerOnResetStart cut ∨ c = .resetPinLow cut)
    ∨ ∃ v, s.completesInto c v ∧ (t = v.settle s.arb ∨ t = v.grantNow s.arb)

/-- Every command but the close of a frame does one of these (R172, R174). -/
theorem Event_granted {s t : State} {c : Instr} (h : s.Event c t) (hc : ∀ cut, c ≠ .frameClose cut) :
    s.granted c t := by
  have ended {v : State} (hv : s.completesInto c v) : s.granted c (v.settle s.arb) := .inr (.inr ⟨v, hv, .inl rfl⟩)
  have same {v : State} (hv : s.samePort v) : s.granted c (v.settle s.arb) := ended (completesInto_of_samePort hv)
  have accepted {u v : State} (hu : s.samePort u) (hv : u.works v) (k : Option Frame) :
      s.granted c ((v.finishRetake.setFrame k).settle s.arb) :=
    same (samePort_trans (samePort_trans hu (samePort_of_works hv)) ⟨by simp, by simp⟩)
  have drained (st op ports) (k : Option Frame) :
      s.granted c ((((s.accept st op).startDrain ports).finishRetake.setFrame k).settle s.arb) :=
    accepted (samePort_of_arb (by rfl)) (startDrain_works (s.accept st op) ports) k
  cases h with
  | idles => exact .inl rfl
  | follows => exact .inl rfl
  | samples => exact .inl rfl
  | begins _ why cut x hc' => exact .inr (.inl ⟨rfl, fun _ r => by cases r <;> rfl, cut, hc'⟩)
  | ends _ m x =>
    refine .inr (.inr ⟨_, completesInto_of_samePort ?_, .inr rfl⟩)
    exact samePort_trans (samePort_of_arb rfl) (request_samePort _ _ _)
  | softResets cut => exact absurd rfl (hc cut)
  | frames => exact .inl rfl
  | falls => exact same ⟨by simp, by simp⟩
  | rises => exact same (samePort_trans (samePort_of_arb rfl) (pfailRises_samePort _))
  | answers => exact same (samePort_of_arb rfl)
  | stages => exact same (samePort_of_arb rfl)
  | validates => exact same (samePort_of_arb rfl)
  | releases => exact same ⟨by simp, by simp⟩
  | commits _ k => exact drained _ _ _ k
  | commitsDamaged _ k =>
    exact accepted (samePort_of_arb (by rfl))
      (works_of_journalOnly (startAdvance_journalOnly (s.accept .committing .commit))) k
  | aborts _ k => exact drained _ _ _ k
  | abortsDamaged _ k =>
    exact accepted (samePort_of_arb (by rfl))
      (works_of_journalOnly (startScan_journalOnly (s.accept .aborting .abort) _)) k
  | formats _ k => exact drained _ _ _ k
  | applies _ k => exact drained _ _ _ k
  | presents p => exact .inl (by simp)
  | decides p => exact same ⟨by simp, by simp⟩
  | responds p => exact .inl (by simp)
  | readCompletes p merr op _ hcur hpurpose =>
    exact ended (completesInto_of_release hcur (by rw [hpurpose]; rfl) (u := s.release.hostReadDone p op merr) (by simp)
      (samePort_of_works (portResponded_works _ _)))
  | writeCompletes p op _ hcur hpurpose =>
    exact ended (completesInto_of_release hcur (by rw [hpurpose]; rfl)
      (u := (s.release.storeCells op).hostWriteDone p) (by simp) (samePort_of_works (portResponded_works _ _)))
  | takesEntry e rest => exact same (takeEntry_samePort _ _ _)
  | lineRead merr op e _ hcur hpurpose =>
    exact ended (completesInto_of_release hcur (by rw [hpurpose]; rfl) rfl (lineReadDone_samePort _ _ _ _))
  | reserves e image => exact same (reserve_samePort _ _ _)
  | recordWritten op e n _ hcur hpurpose =>
    exact ended (completesInto_of_release hcur (by rw [hpurpose]; rfl) (u := s.release) rfl
      (samePort_of_arb (by simp)))
  | inserts e n => exact same ⟨by simp, by simp⟩
  | firstPartRead merr op k _ hcur hpurpose =>
    exact ended (completesInto_of_release hcur (by rw [hpurpose]; rfl) (u := s.release) rfl
      (samePort_trans (samePort_of_arb rfl) (request_samePort _ _ _)))
  | copyRead merr op k first m _ hcur hpurpose =>
    exact ended (completesInto_of_release hcur (by rw [hpurpose]; rfl) rfl
      (samePort_of_journalOnly (copyRead_journalOnly _ _ _)))
  | firstPartWritten op k seq rest _ hcur hpurpose =>
    exact ended (completesInto_of_release hcur (by rw [hpurpose]; rfl) (u := s.release.storeCells op) rfl
      (samePort_trans (samePort_of_arb rfl) (request_samePort _ _ _)))
  | copyWritten op k seq _ hcur hpurpose =>
    exact ended (completesInto_of_release hcur (by rw [hpurpose]; rfl) (by rfl)
      (samePort_of_works (anchorDone_works _)))
  | scrubs op n _ hcur hpurpose =>
    exact ended (completesInto_of_release hcur (by rw [hpurpose]; rfl) (by rfl)
      (samePort_of_journalOnly (scrubbed_journalOnly _ _)))
  | scans merr op sc _ hcur hpurpose =>
    exact ended (completesInto_of_release hcur (by rw [hpurpose]; rfl) (by rfl)
      (samePort_of_journalOnly (scanSlot_journalOnly _ _ _ _)))
  | looksAhead merr op sc _ hcur hpurpose =>
    exact ended (completesInto_of_release hcur (by rw [hpurpose]; rfl) (by rfl)
      (samePort_of_journalOnly (lookAheadSlot_journalOnly _ _ _ _)))
  | rollsBack merr op rb _ hcur hpurpose =>
    exact ended (completesInto_of_release hcur (by rw [hpurpose]; rfl) (by rfl)
      (samePort_of_journalOnly (rollbackSlot_journalOnly _ _ _ _)))
  | restores op rb _ hcur hpurpose =>
    exact ended (completesInto_of_release hcur (by rw [hpurpose]; rfl) (by rfl)
      (samePort_of_journalOnly (rollTo_journalOnly _ _)))

/-! ## The first part: a free port goes to the first, and an operation stays to its end (R172, R174) -/

/-- A new operation at the memory port has been granted (R174). -/
theorem current_of_granted {s t : State} {c : Instr} {r : Requester} {op : MemOp} (h : s.granted c t)
    (hcur : t.arb.current = some (r, op)) (hne : t.arb.current ≠ s.arb.current) :
    ∃ now : Arbiter, now.pointer = s.arb.pointer ∧ s.arb.choosable now r
      ∧ t.arb = { now.setRequest r none with pointer := r, current := some (r, op) } := by
  obtain h | ⟨h, -⟩ | ⟨v, ⟨hp, hv⟩, ht⟩ := h
  · exact absurd (by rw [h]) hne
  · simp [h] at hcur
  · have hfree : v.arb.current = none := by
      obtain hv | ⟨hv, -⟩ := hv
      · cases hb : v.arb.current with
        | none => rfl
        | some x =>
          obtain rfl : t = v := by
            obtain ht | ht := ht
            · rw [ht, settle_busy hb]
            · rw [ht, State.grantNow, hb]
          exact absurd hv hne
      · exact hv
    have hg : t.arb.current = none ∨ ∃ r op, s.arb.choosable v.arb r ∧ v.arb.request r = some op
        ∧ t.arb = { v.arb.setRequest r none with pointer := r, current := some (r, op) } := by
      obtain ht | ht := ht <;> rw [ht]
      · exact settle_grants hfree
      · exact grantNow_grants hfree
    obtain hg | ⟨r', op', hr, -, hg⟩ := hg
    · simp [hg] at hcur
    · rw [hg] at hcur
      cases hcur
      exact ⟨v.arb, hp, hr, hg⟩

/-- An operation in progress leaves at its completion or at a reset (R172). -/
theorem leaves_of_granted {s t : State} {c : Instr} {r : Requester} {op : MemOp} (h : s.granted c t)
    (hcur : s.arb.current = some (r, op)) (hne : t.arb.current ≠ s.arb.current) :
    completionOf c = some op.purpose ∨ ∃ cut, c = .powerOnResetStart cut ∨ c = .resetPinLow cut := by
  obtain h | ⟨-, -, h⟩ | ⟨v, ⟨-, hv⟩, ht⟩ := h
  · exact absurd (by rw [h]) hne
  · exact .inr h
  · obtain hv | ⟨-, r', op', hcur', hc⟩ := hv
    · rw [hcur] at hv
      refine absurd ?_ hne
      obtain ht | ht := ht
      · rw [ht, settle_busy hv, hv, hcur]
      · rw [ht, State.grantNow, hv]
        exact hv.trans hcur.symm
    · rw [hcur] at hcur'
      cases hcur'
      exact .inl hc

/-! ## The second part: no request waits at an idle port but for a next one (R174, log 29) -/

/-- An event whose effect may request memory is that effect and then the grant (R174). -/
theorem exec_requesting {s w : State} {c : Instr} (h : s.requestingEffect c = some w) :
    exec c s = .next (w.settle s.arb) := by
  have taken {x : Option State} (hx : x = some w) : s.take x = .next (w.settle s.arb) := by rw [hx]; rfl
  cases c with
  | policyDecision | captureTake | slotReservation | filterInsertion | releaseFence | commit | abort | format | apply =>
    exact taken h
  | pfailRise =>
    have hw : s.pfailRisen = some w := h
    have hrise : s.pins.pfailLow = true ∧ s.inReset = false := by
      by_contra hn
      rw [State.pfailRisen, if_neg (by simpa using hn)] at hw
      cases hw
    rw [exec_pfailRise hrise.2 hrise.1]
    rw [State.pfailRisen, if_pos (by simp [hrise])] at hw
    cases hw
    rfl
  | _ => cases h

/-- A requester gains a request (R174). -/
theorem gains_iff {arb now : Arbiter} (h : arb.gains now = true) :
    ∃ r, arb.request r = none ∧ now.request r ≠ none := by
  simp only [Arbiter.gains, List.any_eq_true, Bool.and_eq_true, Option.isNone_iff_eq_none,
    Option.isSome_iff_ne_none] at h
  obtain ⟨r, -, h1, h2⟩ := h
  exact ⟨r, h1, h2⟩

/-- The next command that brings a request is the next step (R174, log 29). -/
theorem awaitsRequest_of_requestNext {s : State} (hcur : s.arb.current = none) (h : s.requestNext = true) :
    s.awaitsRequest := by
  unfold State.requestNext at h
  split at h
  · next c rest hp =>
    split at h
    · next w hw =>
      obtain ⟨r, h1, h2⟩ := gains_iff h
      refine ⟨w.settle (s.setPending rest).arb, r, ?_, ?_, ?_⟩
      · rw [step, hp]
        exact exec_requesting hw
      · simp [State.outstanding, Arbiter.outstanding, h1, hcur]
      · rw [settle_outstanding]
        obtain ⟨op, hop⟩ := Option.ne_none_iff_exists'.1 h2
        simp [State.outstanding, Arbiter.outstanding, hop]
    · cases h
  · cases h

/-- The end of an event leaves no request at an idle port but for a next one (R174, log 29). -/
theorem settle_grantsMade (b : Arbiter) (v : State) : (v.settle b).grantsMade ∨ (v.settle b).awaitsRequest := by
  obtain ⟨h, hm⟩ | ⟨h, hcur, -, hn⟩ | ⟨r, op, -, -, h⟩ := settle_cases b v
  · rw [h]
    exact .inl hm
  · rw [h]
    exact .inr (awaitsRequest_of_requestNext hcur hn)
  · exact .inl fun hc => by simp [h] at hc

theorem grantNow_grantsMade (b : Arbiter) (v : State) : (v.grantNow b).grantsMade := by
  obtain ⟨h, hm⟩ | ⟨r, op, -, -, h⟩ := grantNow_cases b v
  · rw [h]
    exact hm
  · exact fun hc => by simp [h] at hc

/-- Every command leaves the arbiter, or leaves no request at an idle port but for a next one. -/
theorem Event_grantsMade {s t : State} {c : Instr} (h : s.Event c t) :
    t.arb = s.arb ∨ t.grantsMade ∨ t.awaitsRequest := by
  by_cases hc : ∃ cut, c = .frameClose cut
  · obtain ⟨cut, rfl⟩ := hc
    cases h with
    | idles => exact .inl rfl
    | follows => exact .inl rfl
    | begins _ _ _ _ hc => simp at hc
    | ends _ _ _ hc => simp at hc
    | softResets => exact .inr (.inl (grantNow_grantsMade _ _))
    | frames => exact .inl rfl
    | answers => exact .inr (settle_grantsMade _ _)
  · obtain h | ⟨-, h, -⟩ | ⟨v, -, h | h⟩ := Event_granted h (fun cut hcut => hc ⟨cut, hcut⟩)
    · exact .inl h
    · exact .inr (.inl h)
    · rw [h]
      exact .inr (settle_grantsMade _ _)
    · rw [h]
      exact .inr (.inl (grantNow_grantsMade _ _))

/-- Settles O50: an event ends in a grant among those that may be chosen, and what it does not grant waits for a next
request. -/
theorem theArbiterGrantsInCycleOrder : Obligations.TheArbiterGrantsInCycleOrder := by
  refine ⟨fun c s t r op hc hexec => ?_, fun s t h hstep => ?_⟩
  · have hg := Event_granted (Event_of_exec hexec) hc
    refine ⟨fun hcur hne => ?_, fun hcur hne => leaves_of_granted hg hcur hne⟩
    obtain ⟨now, hp, hchoose, harb⟩ := current_of_granted hg hcur hne
    rw [harb, ← hp]
    exact ⟨rfl, choosable_granted hchoose⟩
  · have hsame (harb : t.arb = s.arb) : t.grantsMade ∨ t.awaitsRequest := by
      obtain h | ⟨u, r, hu, hnone, hsome⟩ := h
      · exact .inl (by rwa [State.grantsMade, harb])
      · rw [hstep] at hu
        cases hu
        rw [State.outstanding, harb] at hsome
        exact absurd hnone hsome
    cases hpend : s.pending with
    | nil =>
      rw [step, hpend] at hstep
      cases hstep
      exact h
    | cons c rest =>
      have hexec : exec c (s.setPending rest) = .next t := by rwa [step, hpend] at hstep
      exact (Event_grantsMade (Event_of_exec hexec)).elim hsame id

end Sys2Proof.Machine
end

section
/-! PROOFS. O59, the laws of the journal in three parts: the records below fill and the lines tracked, what the host's
writes and the captures rest on, and what the Journal Controller's work rests on (R25, R26, R33, R38, R49, R80, R125). -/
namespace Sys2Proof.Machine

open Sys2Proof

/-! ## The three parts of the laws -/

/-- Fill is in range, each slot below it holds its record, and each tracked line has one (R25, R26, R49). -/
structure State.records (s : State) : Prop where
  range : ∀ g, s.jc.geom = some g → s.jc.fill ≤ g.count
  bare : s.jc.geom = none → s.jc.fill = 0
  below : ∀ g k, s.jc.geom = some g → k < s.jc.fill → s.holdsRecord g k
  lines : ∀ l ∈ s.filter.lines, s.hasRecord l

/-- What the phase of the capture in flight rests on (R28, R77 to R79). -/
structure State.phaseSound (s : State) : Prop where
  reserving : ∀ e image, s.engine.current = some ⟨e, .reserving image⟩ → image.length = 64
  writing : ∀ e k, s.engine.current = some ⟨e, .writing k⟩ →
    ∃ g image, s.jc.geom = some g ∧ k = s.jc.fill ∧ k < g.count ∧ image.length = 64
      ∧ s.outstanding .capture = some
          ⟨.recordWrite, slotAt g k, 20, (captureRecord e.window k e.line s.jc.epoch image).map some⟩
  inserting : ∀ e k, s.engine.current = some ⟨e, .inserting k⟩ → s.hasRecord e.line

/-- An entry is of its port's JOURNALED write (R74). -/
def State.entrySound (s : State) (e : Entry) : Prop :=
  ∃ x, (s.port e.port).txn = some x ∧ x.addr / 64 = e.line ∧ x.resolution = some (.covered .journaled e.window)

/-- What the host's JOURNALED writes rest on (R74, R80). -/
structure State.hostRecords (s : State) : Prop where
  inMemory : ∀ p x w, s.inFlight p x → (s.port p).stage = .inMemory → x.resolution = some (.covered .journaled w) →
    s.hasRecord (x.addr / 64)
  entries : ∀ e ∈ s.engine.entries, s.entrySound e
  phase : s.phaseSound

/-- What the Journal Controller's work rests on (R33, R38, R106, R125). -/
def State.workRecords (s : State) : Prop := s.sparesRecords ∧ s.scanSound

theorem journalSound_iff {s : State} : s.journalSound ↔ s.records ∧ s.hostRecords ∧ s.workRecords := by
  have range : (match s.jc.geom with | some g => s.jc.fill ≤ g.count | none => s.jc.fill = 0)
      ↔ (∀ g, s.jc.geom = some g → s.jc.fill ≤ g.count) ∧ (s.jc.geom = none → s.jc.fill = 0) := by
    cases s.jc.geom <;> simp
  constructor
  · rintro ⟨h1, h2, h3, h4, ⟨h5, h6, h7, h8⟩, h9, h10⟩
    obtain ⟨hr, hb⟩ := range.mp h1
    exact ⟨⟨hr, hb, h2, h3⟩, ⟨h4, h5, ⟨h6, h7, h8⟩⟩, h9, h10⟩
  · rintro ⟨⟨hr, hb, h2, h3⟩, ⟨h4, h5, ⟨h6, h7, h8⟩⟩, h9, h10⟩
    exact ⟨range.mpr ⟨hr, hb⟩, h2, h3, h4, ⟨h5, h6, h7, h8⟩, h9, h10⟩

/-! ## Slots in memory (R19) -/

/-- The bytes of a lawful journal's slot lie in its extent, in the address space (R18, R19). -/
theorem slot_in_extent {g : Geometry} {m : MemSize} (h : g.lawful m) {k : Nat} (hk : k < g.count) :
    g.base * 64 ≤ slotAt g k ∧ slotAt g k + 80 ≤ (g.base + (g.count * 5 + 3) / 4) * 64
      ∧ slotAt g k + 80 ≤ addressSpace := by
  obtain ⟨-, -, hext⟩ := h
  have hspace := lines_le m
  unfold slotAt
  refine ⟨by omega, by omega, by omega⟩

/-- A slot reads the same where its bytes do. -/
theorem slot_eq_of_read {s t : State} {g : Geometry} {k : Nat} (hfit : slotAt g k + 80 ≤ addressSpace)
    (h : ∀ a, slotAt g k ≤ a → a < slotAt g k + 80 → t.mem.read a = s.mem.read a) : t.slot g k = s.slot g k := by
  refine List.ext_getElem? fun i => ?_
  unfold State.slot
  by_cases hi : i < 80
  · rw [Mem.readBytes_get _ _ _ _ hi, Mem.readBytes_get _ _ _ _ hi, Nat.mod_eq_of_lt (by omega), h _ (by omega) (by omega)]
  · rw [List.getElem?_eq_none (by simp; omega), List.getElem?_eq_none (by simp; omega)]

/-- A write outside the journal extent leaves the slots (R19, R172). -/
theorem slot_writeCells {s : State} {g : Geometry} {m : MemSize} {op : MemOp} (hclear : op.clearOf g) (hg : g.lawful m)
    {k : Nat} (hk : k < g.count) : (s.storeCells op).slot g k = s.slot g k := by
  obtain ⟨hspace, hout⟩ := hclear
  obtain ⟨hlow, hhigh, hfit⟩ := slot_in_extent hg hk
  refine slot_eq_of_read hfit fun a h1 h2 => Mem.read_writeCells_other _ _ _ _ fun i b hi => ?_
  have hlt := (List.getElem?_eq_some_iff.mp hi).1
  rw [Nat.mod_eq_of_lt (by omega)]
  omega

/-! ## What keeps the laws -/

/-- From s to t the records below fill stay (R26). -/
structure State.keepsRecords (s t : State) : Prop where
  geom : t.jc.geom = s.jc.geom
  fill : s.jc.fill ≤ t.jc.fill
  slots : ∀ g k, s.jc.geom = some g → k < s.jc.fill → t.slot g k = s.slot g k

/-- From s to t geometry, fill, epoch and every slot stay. -/
structure State.sameJournal (s t : State) : Prop where
  geom : t.jc.geom = s.jc.geom
  fill : t.jc.fill = s.jc.fill
  epoch : t.jc.epoch = s.jc.epoch
  slots : ∀ g k, s.jc.geom = some g → k < g.count → t.slot g k = s.slot g k

/-- Work that stores nothing. -/
theorem sameJournal_of_mem {s t : State} (hmem : t.mem = s.mem) (hgeom : t.jc.geom = s.jc.geom)
    (hfill : t.jc.fill = s.jc.fill) (hepoch : t.jc.epoch = s.jc.epoch) : s.sameJournal t :=
  ⟨hgeom, hfill, hepoch, fun g k _ _ => by unfold State.slot; rw [hmem]⟩

theorem sameJournal_of_jc {s t : State} (hmem : t.mem = s.mem) (hjc : t.jc = s.jc) : s.sameJournal t :=
  sameJournal_of_mem hmem (by rw [hjc]) (by rw [hjc]) (by rw [hjc])

theorem keepsRecords_of_sameJournal {s t : State} (h : s.sameJournal t) (hr : s.records) : s.keepsRecords t :=
  ⟨h.geom, h.fill.ge, fun g k hg hk => h.slots g k hg (lt_of_lt_of_le hk (hr.range g hg))⟩

theorem hasRecord_keeps {s t : State} (h : s.keepsRecords t) {l : Nat} (hl : s.hasRecord l) : t.hasRecord l := by
  obtain ⟨g, k, hg, hk, e⟩ := hl
  exact ⟨g, k, h.geom.trans hg, lt_of_lt_of_le hk h.fill, by rw [h.slots g k hg hk]; exact e⟩

theorem holdsRecord_congr {s t : State} (h : s.sameJournal t) {g : Geometry} {k : Nat} (hg : s.jc.geom = some g)
    (hk : k < g.count) (hs : s.holdsRecord g k) : t.holdsRecord g k := by
  unfold State.holdsRecord at *
  rwa [h.slots g k hg hk, h.epoch]

theorem records_congr {s t : State} (h : s.sameJournal t) (hlines : ∀ l ∈ t.filter.lines, l ∈ s.filter.lines)
    (hr : s.records) : t.records where
  range g hg := h.fill ▸ hr.range g (h.geom ▸ hg)
  bare hg := h.fill.trans (hr.bare (h.geom ▸ hg))
  below g k hg hk := by
    have hg' : s.jc.geom = some g := h.geom ▸ hg
    have hk' : k < s.jc.fill := h.fill ▸ hk
    exact holdsRecord_congr h hg' (lt_of_lt_of_le hk' (hr.range g hg')) (hr.below g k hg' hk')
  lines l hl := hasRecord_keeps (keepsRecords_of_sameJournal h hr) (hr.lines l (hlines l hl))

/-- An empty journal with nothing tracked. -/
theorem records_of_empty {s : State} (hfill : s.jc.fill = 0) (hlines : s.filter.lines = []) : s.records where
  range g _ := by omega
  bare _ := hfill
  below g k _ hk := by omega
  lines l hl := by rw [hlines] at hl; cases hl

/-- With no record below fill no line is tracked (R49). -/
theorem lines_of_empty {s : State} (hr : s.records) (hfill : s.jc.fill = 0) : s.filter.lines = [] := by
  refine List.eq_nil_iff_forall_not_mem.mpr fun l hl => ?_
  obtain ⟨g, k, -, hk, -⟩ := hr.lines l hl
  omega

theorem phaseSound_congr {s t : State} (h : s.sameJournal t) (hr : s.records)
    (hcurrent : ∀ c, t.engine.current = some c → c.handedBack = false → s.engine.current = some c)
    (hout : t.outstanding .capture = s.outstanding .capture) (hs : s.phaseSound) : t.phaseSound where
  reserving e image hc := hs.reserving e image (hcurrent _ hc rfl)
  writing e k hc := by
    obtain ⟨g, image, h1, h2, h3, h4, h5⟩ := hs.writing e k (hcurrent _ hc rfl)
    exact ⟨g, image, h.geom.trans h1, h2.trans h.fill.symm, h3, h4, by rw [hout, h.epoch]; exact h5⟩
  inserting e k hc := hasRecord_keeps (keepsRecords_of_sameJournal h hr) (hs.inserting e k (hcurrent _ hc rfl))

/-- A capture that has nothing to write yet, or has handed its write back, rests on nothing. -/
theorem phaseSound_of_reading {s : State}
    (h : ∀ c, s.engine.current = some c → c.phase = .reading ∨ c.handedBack = true) : s.phaseSound where
  reserving _ _ hc := (h _ hc).elim nofun nofun
  writing _ _ hc := (h _ hc).elim nofun nofun
  inserting _ _ hc := (h _ hc).elim nofun nofun

/-- The engine x works for no entry that y does not work for, and is in no phase of a capture that y is not in. -/
structure Engine.within (x y : Engine) : Prop where
  queue : ∀ e ∈ x.queue, e ∈ y.queue
  current : ∀ c, x.current = some c → c.handedBack = false → y.current = some c

theorem within_of_eq {x y : Engine} (h : x = y) : x.within y := h ▸ ⟨fun _ h => h, fun _ h _ => h⟩

theorem mem_entries {x : Engine} {e : Entry} :
    e ∈ x.entries ↔ (∃ c, x.current = some c ∧ c.handedBack = false ∧ c.entry = e) ∨ e ∈ x.queue := by
  unfold Engine.entries
  cases hc : x.current with
  | none => simp
  | some c => cases hb : c.handedBack <;> simp [hb, @eq_comm _ e]

theorem entries_within {x y : Engine} (h : x.within y) {e : Entry} (he : e ∈ x.entries) : e ∈ y.entries := by
  rw [mem_entries] at he ⊢
  obtain ⟨c, hc, hb, rfl⟩ | hq := he
  · exact .inl ⟨c, h.current c hc hb, hb, rfl⟩
  · exact .inr (h.queue e hq)

/-- The entries' ports are those that wait for the engine (R74). -/
theorem port_of_entry {x : Engine} {e : Entry} (he : e ∈ x.entries) : e.port ∈ x.waiting := by
  obtain ⟨c, hc, hb, rfl⟩ | hq := mem_entries.mp he
  · simp [Engine.waiting, hc, hb]
  · exact List.mem_append_right _ (List.mem_map_of_mem hq)

theorem hostRecords_of {s t : State} (h : s.sameJournal t) (hr : s.records) (hs : s.hostRecords)
    (hengine : t.engine.within s.engine) (hout : t.outstanding .capture = s.outstanding .capture)
    (hport : ∀ p, p ∈ s.engine.waiting → (t.port p).txn = (s.port p).txn)
    (hmem : ∀ p x w, t.inFlight p x → (t.port p).stage = .inMemory → x.resolution = some (.covered .journaled w) →
      (s.inFlight p x ∧ (s.port p).stage = .inMemory) ∨ s.hasRecord (x.addr / 64)) : t.hostRecords where
  inMemory p x w hf hst hres := by
    refine hasRecord_keeps (keepsRecords_of_sameJournal h hr) ?_
    obtain ⟨h1, h2⟩ | h1 := hmem p x w hf hst hres
    · exact hs.inMemory p x w h1 h2 hres
    · exact h1
  entries e he := by
    have he' := entries_within hengine he
    unfold State.entrySound
    rw [hport _ (port_of_entry he')]
    exact hs.entries e he'
  phase := phaseSound_congr h hr hengine.current hout hs.phase

theorem hostRecords_congr {s t : State} (h : s.sameJournal t) (hr : s.records) (hs : s.hostRecords)
    (hengine : t.engine = s.engine) (hout : t.outstanding .capture = s.outstanding .capture)
    (ha : t.portA = s.portA) (hb : t.portB = s.portB) : t.hostRecords := by
  have hport := port_congr (s := s) (t := t) ha hb
  refine hostRecords_of h hr hs (within_of_eq hengine) hout (fun p _ => by rw [hport]) fun p x w hf hst _ => .inl ?_
  unfold State.inFlight at hf ⊢
  rw [hport] at hf hst
  exact ⟨hf, hst⟩

/-- A port that the engine has nothing of goes to rest. -/
theorem hostRecords_move {s t : State} {p : Port} (h : s.sameJournal t) (hr : s.records) (hs : s.hostRecords)
    (hwait : p ∉ s.engine.waiting) (hengine : t.engine.within s.engine)
    (hout : t.outstanding .capture = s.outstanding .capture) (hport : ∀ q, q ≠ p → t.port q = s.port q)
    (hp : ¬ t.underWay p) : t.hostRecords := by
  refine hostRecords_of h hr hs hengine hout (fun q hq => ?_) fun q x w hf hst _ => .inl ?_
  · rw [hport q fun e => hwait (e ▸ hq)]
  · have hq : q ≠ p := fun e => hp (.inr (e ▸ hst))
    unfold State.inFlight at hf ⊢
    rw [hport q hq] at hf hst
    exact ⟨hf, hst⟩

theorem workRecords_congr {s t : State} (h : s.sameJournal t) (hunit : t.anchors.op = s.anchors.op)
    (hout : t.outstanding .journal = s.outstanding .journal) (hscan : t.jc.scan = s.jc.scan) (hs : s.workRecords) :
    t.workRecords := by
  obtain ⟨⟨h1, h2⟩, h3, h4⟩ := hs
  refine ⟨⟨by rw [hunit]; exact h1, ?_⟩, ?_, ?_⟩
  · rw [hout, h.geom, h.fill]
    exact h2
  · unfold Anchors.reading at h3 ⊢
    rw [hunit, h.fill]
    exact h3
  · intro sc hsc
    obtain ⟨g, hg, hpos, hrec, hread⟩ := h4 sc (hscan ▸ hsc)
    exact ⟨g, h.geom.trans hg, hpos, fun k hk => holdsRecord_congr h hg (lt_trans hk hpos) (hrec k hk),
      fun hl => hout.trans (hread hl)⟩

/-- The Journal Controller has nothing at the arbiter and nothing it scans or reads for. -/
structure State.journalRests (s : State) : Prop where
  scan : s.jc.scan = none
  unit : s.anchors.op = none
  idle : s.outstanding .journal = none

theorem workRecords_of_rest {s : State} (h : s.journalRests) : s.workRecords := by
  refine ⟨⟨?_, ?_⟩, ?_, ?_⟩
  · rw [h.unit]; nofun
  · rw [h.idle]; nofun
  · simp [Anchors.reading, h.unit]
  · rw [h.scan]; nofun

theorem journalRests_of_handFree {s : State} (h : s.handFree) : s.journalRests := ⟨h.scan, h.unit, h.idle⟩

/-- While a host write is past its decision the Journal Controller rests (R57, R82). -/
theorem journalRests_of_admits {s : State} (hw : s.workSound) {p : Port} (h : s.admits p) : s.journalRests := by
  obtain ⟨hstep, hop, -⟩ := id hw
  by_cases ho : s.jc.op = .none
  · exact journalRests_of_handFree (handFree_of_noOperation hw ho).1
  · obtain ⟨hd, -⟩ := admits_of_busy hop ho h
    unfold State.stepWork at hstep
    rw [hd] at hstep
    obtain ⟨hscan, -, -, -, hunit, hidle, -⟩ := hstep
    exact ⟨hscan, hunit, hidle⟩

/-- The three parts together. -/
def State.journalLaws (s : State) : Prop := s.records ∧ s.hostRecords ∧ s.workRecords

/-- What the Journal Controller's work has to keep itself. -/
def State.ownLaws (s : State) : Prop := s.records ∧ s.workRecords

theorem journalLaws_congr {s t : State} (h : s.sameJournal t) (hlines : t.filter.lines = s.filter.lines)
    (hengine : t.engine = s.engine) (ha : t.portA = s.portA) (hb : t.portB = s.portB)
    (hcapture : t.outstanding .capture = s.outstanding .capture)
    (hjournal : t.outstanding .journal = s.outstanding .journal) (hunit : t.anchors.op = s.anchors.op)
    (hscan : t.jc.scan = s.jc.scan) (hs : s.journalLaws) : t.journalLaws := by
  obtain ⟨h1, h2, h3⟩ := hs
  exact ⟨records_congr h (fun l hl => hlines ▸ hl) h1, hostRecords_congr h h1 h2 hengine hcapture ha hb,
    workRecords_congr h hunit hjournal hscan h3⟩

theorem journalLaws_settle {s : State} (h : s.journalLaws) (b : Arbiter) : (s.settle b).journalLaws :=
  journalLaws_congr (sameJournal_of_jc (by simp) (by simp)) (by simp) (by simp) (by simp) (by simp)
    (settle_outstanding b s _) (settle_outstanding b s _) (by simp) (by simp) h

theorem journalLaws_of_arb {s t : State} (hmem : t.mem = s.mem) (hjc : t.jc = s.jc) (hfilter : t.filter = s.filter)
    (hengine : t.engine = s.engine) (ha : t.portA = s.portA) (hb : t.portB = s.portB) (harb : t.arb = s.arb)
    (hunit : t.anchors = s.anchors) (hs : s.journalLaws) : t.journalLaws :=
  journalLaws_congr (sameJournal_of_jc hmem hjc) (by rw [hfilter]) hengine ha hb (outstanding_congr harb _)
    (outstanding_congr harb _) (by rw [hunit]) (by rw [hjc]) hs

end Sys2Proof.Machine
end

section
/-! PROOFS. O59, the host's side: a decision takes a JOURNALED write to memory where its line is tracked alone, and the
engine's events keep what each capture rests on (R49, R63, R74 to R80). -/
namespace Sys2Proof.Machine

open Sys2Proof

/-! ## Decisions -/

/-- A write that joins the queue is JOURNALED, and one that goes to memory as JOURNALED has its line tracked (R63). -/
theorem judge_journaled {s : State} {x : Txn} :
    (∀ r w, s.judge x = .queue r w → r = .covered .journaled w)
      ∧ ∀ w, s.judge x = .write (.covered .journaled w) → x.addr / 64 ∈ s.filter.lines := by
  have opened pol w (hpol : pol ≠ .guarded) : (∀ r n, s.judgeOpen x pol w = .queue r n → r = .covered .journaled n)
      ∧ ∀ n, s.judgeOpen x pol w = .write (.covered .journaled n) → x.addr / 64 ∈ s.filter.lines := by
    unfold State.judgeOpen
    split_ifs with hnone hdirect
    · exact ⟨nofun, nofun⟩
    · refine ⟨nofun, fun n hn => ?_⟩
      cases hn
      obtain h | h := hdirect
      · cases h
      · exact of_decide_eq_true h
    · refine ⟨fun r n hn => ?_, nofun⟩
      cases hn
      cases pol <;> simp_all
  have covered pol w : (∀ r n, s.judgeCovered x pol w = .queue r n → r = .covered .journaled n)
      ∧ ∀ n, s.judgeCovered x pol w = .write (.covered .journaled n) → x.addr / 64 ∈ s.filter.lines := by
    unfold State.judgeCovered
    split_ifs with hguarded
    · exact ⟨nofun, nofun⟩
    · exact ⟨nofun, nofun⟩
    · exact ⟨nofun, nofun⟩
    · exact ⟨nofun, nofun⟩
    · exact opened pol w hguarded
  unfold State.judge
  split_ifs
  · exact ⟨nofun, nofun⟩
  · exact ⟨nofun, nofun⟩
  · exact ⟨nofun, nofun⟩
  · exact ⟨nofun, nofun⟩
  · split
    · exact ⟨nofun, nofun⟩
    · exact covered _ _

/-- A port that the engine has nothing of enters IN_MEMORY with a record its law holds for. -/
theorem hostRecords_enters {s t : State} {p : Port} (h : s.sameJournal t) (hr : s.records) (hs : s.hostRecords)
    (hwait : p ∉ s.engine.waiting) (hengine : t.engine.within s.engine)
    (hout : t.outstanding .capture = s.outstanding .capture) (hport : ∀ q, q ≠ p → t.port q = s.port q)
    (hp : ∀ x w, t.inFlight p x → x.resolution = some (.covered .journaled w) → s.hasRecord (x.addr / 64)) :
    t.hostRecords := by
  refine hostRecords_of h hr hs hengine hout (fun q hq => ?_) fun q x w hf hst hres => ?_
  · rw [hport q fun e => hwait (e ▸ hq)]
  · by_cases hq : q = p
    · subst hq
      exact .inr (hp x w hf hres)
    · refine .inl ?_
      unfold State.inFlight at hf ⊢
      rw [hport q hq] at hf hst
      exact ⟨hf, hst⟩

/-- A write joins the tail of the capture queue as its entry says (R74). -/
theorem queued_hostRecords {s : State} (hr : s.records) (hs : s.hostRecords) {p : Port} (hwait : p ∉ s.engine.waiting)
    {x : Txn} (w : Nat) : (s.enact p x (.queue (.covered .journaled w) w)).hostRecords := by
  have hport q : (s.enact p x (.queue (.covered .journaled w) w)).port q
      = if p = q then
          { s.port p with stage := .captureWait, txn := some { x with resolution := some (.covered .journaled w) } }
        else s.port q := port_setPort s p q _
  have same : s.sameJournal (s.enact p x (.queue (.covered .journaled w) w)) :=
    sameJournal_of_jc (by simp) (by simp)
  refine ⟨fun q y n hf hst hres => ?_, fun e he => ?_, ?_⟩
  · refine hasRecord_keeps (keepsRecords_of_sameJournal same hr) ?_
    by_cases hq : p = q
    · rw [hport, if_pos hq] at hst
      cases hst
    · unfold State.inFlight at hf
      rw [hport, if_neg hq] at hf hst
      exact hs.inMemory q y n hf hst hres
  · unfold State.entrySound
    rw [hport]
    obtain ⟨c, hc, hb, rfl⟩ | hq := mem_entries.mp he
    · have hmem : c.entry ∈ s.engine.entries := mem_entries.mpr (.inl ⟨c, hc, hb, rfl⟩)
      rw [if_neg fun h : p = c.entry.port => hwait (h ▸ port_of_entry hmem)]
      exact hs.entries _ hmem
    · obtain hq | hq := List.mem_append.mp (show e ∈ s.engine.queue ++ [⟨p, x.line, w⟩] from hq)
      · have hmem := mem_entries.mpr (.inr hq)
        rw [if_neg fun h : p = e.port => hwait (h ▸ port_of_entry hmem)]
        exact hs.entries _ hmem
      · obtain rfl := List.mem_singleton.mp hq
        rw [if_pos rfl]
        exact ⟨_, rfl, rfl, rfl⟩
  · exact phaseSound_congr same hr (fun c hc _ => hc) (outstanding_congr (by simp [State.enact]) _) hs.phase

/-- The requests of other requesters leave what the engine has at the arbiter. -/
theorem outstanding_capture_request (s : State) (p : Port) (op : MemOp) :
    (s.request (portRequester p) op).outstanding .capture = s.outstanding .capture :=
  request_outstanding_other _ _ (portRequester_ne_capture p)

theorem takeDecision_hostRecords {s : State} (hr : s.records) (hs : s.hostRecords) (hserved : s.hostServed) {p : Port}
    (hp : ¬ s.underWay p) : (s.takeDecision p).hostRecords := by
  obtain ⟨-, hwait⟩ := portServed_of_rest (hserved.ports p) hp
  have hport {q : Port} (hq : q ≠ p) := takeDecision_port (s := s) hq
  revert hport
  unfold State.takeDecision
  split
  · rename_i x hx
    intro hport
    obtain ⟨hqueue, hhit⟩ := judge_journaled (s := s) (x := x)
    have same d : s.sameJournal (s.enact p x d) := sameJournal_of_jc (by simp) (by simp)
    have rests d (hengine : (s.enact p x d).engine = s.engine) (harb : (s.enact p x d).arb = s.arb)
        (hrest : ¬ (s.enact p x d).underWay p) (hd : ∀ q, q ≠ p → (s.enact p x d).port q = s.port q) :
        (s.enact p x d).hostRecords :=
      hostRecords_move (same d) hr hs hwait (within_of_eq hengine) (outstanding_congr harb _) hd hrest
    cases hj : s.judge x with
    | refuse why =>
      refine rests _ (by simp [State.enact]) (by simp [State.enact]) ?_ fun q hq => refuse_port hq _ _
      simp [State.underWay, State.enact, refuse_stage]
    | hold =>
      refine rests _ (by simp [State.enact]) (by simp [State.enact]) (by simp [State.underWay, State.enact]) fun q hq => ?_
      exact (port_setPort s p q _).trans (if_neg (Ne.symm hq))
    | finish r =>
      refine rests _ (by simp [State.enact]) (by simp [State.enact]) (by simp [State.underWay, State.enact]) fun q hq => ?_
      exact (port_setPort s p q _).trans (if_neg (Ne.symm hq))
    | read =>
      refine hostRecords_enters (p := p) (same .read) hr hs hwait (within_of_eq (by simp [State.enact])) ?_ (fun q hq => ?_)
        fun y w hf _ => ?_
      · exact (outstanding_capture_request _ _ _).trans (outstanding_congr (by simp) _)
      · exact (port_setPort s p q _).trans (if_neg (Ne.symm hq))
      · obtain ⟨hy, hk, -⟩ := hf
        have hx' : ((s.enact p x .read).port p).txn = some x := by
          cases p <;> simpa [State.enact, State.port, State.setPort] using hx
        cases hx'.symm.trans hy
        exact absurd (kind_of_judge.1 hj) (by simp [hk])
    | write r =>
      refine hostRecords_enters (p := p) (same (.write r)) hr hs hwait (within_of_eq (by simp [State.enact])) ?_ (fun q hq => ?_)
        fun y w hf hres => ?_
      · exact (outstanding_capture_request _ _ _).trans (outstanding_congr (by simp) _)
      · exact (port_setPort s p q _).trans (if_neg (Ne.symm hq))
      · obtain ⟨hy, -, -⟩ := hf
        have hx' : ((s.enact p x (.write r)).port p).txn = some { x with resolution := some r } := by
          cases p <;> simp [State.enact, State.port, State.setPort]
        cases hx'.symm.trans hy
        cases hres
        exact hr.lines _ (hhit w hj)
    | queue r w =>
      obtain rfl := hqueue r w hj
      exact queued_hostRecords hr hs hwait w
  · exact fun _ => hs

theorem records_of_Decides {s t : State} (hd : s.Decides t) (h : s.records) : t.records := by
  obtain ⟨-, -, hjc, hfilter, -, -, -, -, -, hmem, -⟩ := Decides_untouched hd
  exact records_congr (sameJournal_of_jc hmem hjc) (fun l hl => hfilter ▸ hl) h

theorem Decides_hostRecords {s t : State} (hd : s.Decides t) (hserved : s.hostServed) (hr : s.records)
    (hs : s.hostRecords) : t.hostRecords := by
  induction hd with
  | none => exact hs
  | asks _ ih => exact ⟨ih.inMemory, ih.entries, ⟨ih.phase.reserving, ih.phase.writing, ih.phase.inserting⟩⟩
  | decides hd' p hp ih =>
    exact takeDecision_hostRecords (records_of_Decides hd' hr) ih (Decides_hostServed hd' hserved) (rest_of_stage hp)
  | stands hd' p hp ih =>
    obtain ⟨-, hwait⟩ := portServed_of_rest ((Decides_hostServed hd' hserved).ports p) (rest_of_stage (.inr hp))
    exact hostRecords_move (p := p) (sameJournal_of_jc (by simp) (by simp)) (records_of_Decides hd' hr) ih hwait
      (within_of_eq (by simp [State.deciding])) (outstanding_congr (by simp [State.deciding]) _)
      (fun q hq => deciding_port hq) (by simp [State.underWay, State.deciding])

theorem workRecords_of_Decides {s t : State} (hd : s.Decides t) (h : s.workRecords) : t.workRecords := by
  obtain ⟨-, -, hjc, -, ha, -, -, -, -, hmem, -, hc, -, hj, -⟩ := Decides_untouched hd
  exact workRecords_congr (sameJournal_of_jc hmem hjc) (by rw [ha]) (outstanding_journal_congr hc hj) (by rw [hjc]) h

theorem journalLaws_of_Decides {s t : State} (hd : s.Decides t) (hserved : s.hostServed) (h : s.journalLaws) :
    t.journalLaws :=
  ⟨records_of_Decides hd h.1, Decides_hostRecords hd hserved h.1 h.2.1, workRecords_of_Decides hd h.2.2⟩

theorem ownLaws_of_Decides {s t : State} (hd : s.Decides t) (h : s.ownLaws) : t.ownLaws :=
  ⟨records_of_Decides hd h.1, workRecords_of_Decides hd h.2⟩

/-! ## Work with no host write past its decision -/

/-- With no host write past its decision the engine has no entry (R74). -/
theorem waiting_of_landed {s : State} (hserved : s.hostServed) (hl : s.landed) : s.engine.waiting = [] := by
  refine List.eq_nil_iff_forall_not_mem.mpr fun p hp => ?_
  obtain ⟨-, -, h3, h4⟩ := hserved.ports p
  have hstage := h3.mpr hp
  obtain ⟨x, hx, hk⟩ := h4 hstage
  exact (hl p x hx).2 hk (.inl hstage)

theorem hostRecords_of_landed {s : State} (hserved : s.hostServed) (hl : s.landed) : s.hostRecords := by
  have none_waits := waiting_of_landed hserved hl
  have not_current (c : Current) (hc : s.engine.current = some c) (hb : c.handedBack = false) : False := by
    have := port_of_entry (mem_entries.mpr (.inl ⟨c, hc, hb, rfl⟩))
    rw [none_waits] at this
    cases this
  refine ⟨fun p x w hf _ _ => ?_, fun e he => ?_, ⟨fun e i hc => ?_, fun e k hc => ?_, fun e k hc => ?_⟩⟩
  · obtain ⟨hx, hk, hu⟩ := hf
    exact absurd hu ((hl p x hx).2 hk)
  · have := port_of_entry he
    rw [none_waits] at this
    cases this
  all_goals exact absurd (not_current _ hc rfl) not_false

/-- The Journal Controller's work keeps the laws it has to keep itself, and held writes that then decide keep theirs. -/
theorem works_journalLaws {s t : State} (hw : s.works t) (hserved : s.hostServed) (hl : s.landed) (h : t.ownLaws) :
    t.journalLaws := by
  obtain ⟨u, hu, hd⟩ := hw
  obtain ⟨-, -, hjc, hfilter, -, -, -, -, -, hmem, -⟩ := Decides_untouched hd
  have hserved' := hostServed_journalOnly hserved hu
  have hl' := landed_congr hl hu.portA hu.portB
  have hr : u.records := records_congr (sameJournal_of_jc hmem.symm hjc.symm) (fun l hl => hfilter ▸ hl) h.1
  exact ⟨h.1, Decides_hostRecords hd hserved' hr (hostRecords_of_landed hserved' hl'), h.2⟩

end Sys2Proof.Machine
end

section
/-! PROOFS. O59, the Journal Controller's work: anchors and restored lines spare the records, a scrub and an epoch's end
empty the journal, and a scan ends with fill at the records it has met (R33, R38, R85, R91, R101, R106, R125 to R130). -/
namespace Sys2Proof.Machine

open Sys2Proof

/-! ## Writes that spare the journal (R38) -/

/-- An anchor copy lies behind every lawful journal (R18, R38, R85). -/
theorem clearOf_anchor {g : Geometry} {m : MemSize} (h : g.lawful m) (c : Copy) {op : MemOp} {k : Nat}
    (haddr : op.addr = c.addr m + k) (hlen : k + op.cells.length ≤ 128) : op.clearOf g := by
  obtain ⟨h1, -, hext⟩ := h
  have hspace := lines_le m
  have hcopy : c.addr m = m.lines * 64 - 256 ∨ c.addr m = m.lines * 64 - 128 := by
    cases c
    · exact .inl rfl
    · exact .inr rfl
  unfold MemOp.clearOf
  generalize m.lines = n at *
  omega

theorem writes_cells_length (p : Purpose) (a : Nat) (bs : List Byte) : (MemOp.writes p a bs).cells.length = bs.length := by
  simp [MemOp.writes, wholeCells]

/-! ## The Journal Controller with a free hand -/

/-- Work that stores nothing and leaves fill, E and the filter. -/
theorem records_kept {s t : State} (hr : s.records) (hmem : t.mem = s.mem) (hgeom : t.jc.geom = s.jc.geom)
    (hfill : t.jc.fill = s.jc.fill) (hepoch : t.jc.epoch = s.jc.epoch) (hfilter : t.filter = s.filter) : t.records :=
  records_congr (sameJournal_of_mem hmem hgeom hfill hepoch) (fun _ hl => hfilter ▸ hl) hr

/-- The records stand, the Journal Controller has nothing at the arbiter, and its configuration is legal. -/
structure State.freeHand (s : State) : Prop where
  records : s.records
  rests : s.journalRests
  active : ∀ g, s.jc.geom = some g → g.lawful s.memSize
  windows : s.eightWindows

theorem ownLaws_of_freeHand {s : State} (h : s.freeHand) : s.ownLaws := ⟨h.records, workRecords_of_rest h.rests⟩

theorem freeHand_setJc {s : State} (h : s.freeHand) {j : Journal} (hgeom : j.geom = s.jc.geom) (hfill : j.fill = s.jc.fill)
    (hepoch : j.epoch = s.jc.epoch) (hscan : j.scan = none) : (s.setJc j).freeHand where
  records := records_kept h.records rfl hgeom hfill hepoch rfl
  rests := ⟨hscan, h.rests.unit, h.rests.idle⟩
  active g hg := h.active g (hgeom ▸ hg)
  windows := h.windows

/-- The end of an operation in which E and fill keep their values, whatever else of the part changes. -/
theorem ownLaws_of_ended {s t : State} (h : s.freeHand) (hmem : t.mem = s.mem) (hgeom : t.jc.geom = s.jc.geom)
    (hfill : t.jc.fill = s.jc.fill) (hepoch : t.jc.epoch = s.jc.epoch) (hlines : t.filter = s.filter)
    (hscan : t.jc.scan = none) (hunit : t.anchors.op = s.anchors.op) (harb : t.arb = s.arb) : t.ownLaws :=
  ⟨records_kept h.records hmem hgeom hfill hepoch hlines,
    workRecords_of_rest ⟨hscan, hunit.trans h.rests.unit, (outstanding_congr harb _).trans h.rests.idle⟩⟩

/-- The journal is empty, and the Journal Controller rests. -/
theorem ownLaws_of_emptied {s : State} (hfill : s.jc.fill = 0) (hlines : s.filter.lines = []) (h : s.journalRests) :
    s.ownLaws := ⟨records_of_empty hfill hlines, workRecords_of_rest h⟩

/-- A read that the Journal Controller requests (R105, R125). -/
theorem ownLaws_reads {s : State} (hr : s.records) (hscan : s.jc.scan = none)
    (hunit : s.anchors.op = none ∨ (s.anchors.reading = true ∧ s.jc.fill = 0)) {op : MemOp}
    (hread : op.purpose.isWrite = false) : (s.request .journal op).ownLaws := by
  refine ⟨records_kept hr rfl rfl rfl rfl rfl, ⟨fun c n rest h => ?_, fun op' ho hw => ?_⟩,
    fun h => ?_, fun sc hsc => ?_⟩
  · change s.anchors.op = _ at h
    obtain e | ⟨e, -⟩ := hunit
    · rw [e] at h; cases h
    · simp [Anchors.reading, h] at e
  · rw [request_outstanding_self] at ho
    cases ho
    rw [hread] at hw
    cases hw
  · change s.anchors.reading = true at h
    obtain e | ⟨-, e⟩ := hunit
    · simp [Anchors.reading, e] at h
    · exact e
  · change s.jc.scan = _ at hsc
    rw [hscan] at hsc
    cases hsc

/-! ## Anchor writes (R91) -/

theorem writeAnchor_ownLaws {s : State} (h : s.freeHand) {c : Setup} (hc : c.windows.length = 8) (e : Word) (ph : Phase)
    (g : Geometry) : (s.writeAnchor e ph g c).ownLaws := by
  have hlen := Anchor.bytes_length (s.nextAnchor e ph g c) hc
  refine ⟨records_kept h.records rfl rfl rfl rfl rfl,
    ⟨fun c' n rest hop => ?_, fun op ho _ => ?_⟩, fun hr => ?_, fun sc hsc => ?_⟩
  · simp only [State.writeAnchor, State.request_untouched, State.setAnchors_anchors, Option.some.injEq,
      AnchorOp.writeFirst.injEq] at hop
    obtain ⟨-, -, rfl⟩ := hop
    simp [hlen]
  · simp only [State.writeAnchor, request_outstanding_self, Option.some.injEq] at ho
    subst ho
    rw [if_neg (by simp [MemOp.writes])]
    exact fun g' hg => clearOf_anchor (k := 0) (h.active g' hg) s.anchors.target rfl
      (by rw [writes_cells_length]; simp)
  · simp [State.writeAnchor, Anchors.reading] at hr
  · exact absurd (h.rests.scan.symm.trans hsc) nofun

/-- The step of an operation is none of the records' business. -/
theorem freeHand_setStep {s : State} (h : s.freeHand) (x : Step) : (s.setStep x).freeHand :=
  freeHand_setJc h rfl rfl rfl h.rests.scan

theorem startAdvance_ownLaws {s : State} (h : s.freeHand) : s.startAdvance.ownLaws := by
  unfold State.startAdvance
  dsimp only
  split <;> exact writeAnchor_ownLaws (freeHand_setStep h _) h.windows.1 _ _ _

theorem startWrapAnchor_ownLaws {s : State} (h : s.freeHand) : s.startWrapAnchor.ownLaws :=
  writeAnchor_ownLaws (freeHand_setStep h _) h.windows.1 _ _ _

theorem startFormatAnchor_ownLaws {s : State} (h : s.freeHand) (x : Step) : (s.startFormatAnchor x).ownLaws :=
  writeAnchor_ownLaws (freeHand_setStep h _) h.windows.2 _ _ _

theorem startApplyAnchor_ownLaws {s : State} (h : s.freeHand) : s.startApplyAnchor.ownLaws :=
  writeAnchor_ownLaws (freeHand_setStep h _) h.windows.2 _ _ _

/-! ## Scrubs (R33) -/

/-- A scrub writes over slots of which none is below fill (R33). -/
theorem requestScrub_ownLaws {s : State} (hfill : s.jc.fill = 0) (hlines : s.filter.lines = [])
    (hscan : s.jc.scan = none) (hunit : s.anchors.op = none) (n : Nat) : (s.requestScrub n).ownLaws := by
  refine ⟨records_of_empty hfill hlines, ⟨fun c k rest h => ?_, fun op ho _ => ?_⟩, fun _ => hfill, fun sc hsc => ?_⟩
  · exact absurd (hunit.symm.trans h) nofun
  · simp only [State.requestScrub, request_outstanding_self, Option.some.injEq] at ho
    subst ho
    rw [if_pos (by rfl)]
    exact hfill
  · exact absurd (hscan.symm.trans hsc) nofun

theorem startScrub_ownLaws {s : State} (h : s.journalRests) : s.startScrub.ownLaws :=
  requestScrub_ownLaws (s := (s.setJc { s.jc with fill := 0, step := some .scrubbing }).setFilter .empty) rfl rfl h.scan
    h.unit 0

theorem scrubbed_ownLaws {s : State} (h : s.freeHand) (hfill : s.jc.fill = 0) (n : Nat) : (s.scrubbed n).ownLaws := by
  unfold State.scrubbed
  dsimp only
  split
  · exact requestScrub_ownLaws hfill (lines_of_empty h.records hfill) h.rests.scan h.rests.unit _
  · have free : (s.setJc { s.jc with scrub := none }).freeHand := freeHand_setJc h rfl rfl rfl h.rests.scan
    split
    · exact startFormatAnchor_ownLaws free _
    · exact startWrapAnchor_ownLaws free

/-! ## Completing events (R101, R109, R142, R145) -/

theorem completeAdvance_ownLaws {s : State} (h : s.freeHand) (e : Word) : (s.completeAdvance e).ownLaws := by
  have emptied {t : State} (hfill : t.jc.fill = 0) (hlines : t.filter = .empty) (hscan : t.jc.scan = none)
      (hunit : t.anchors = s.anchors) (harb : t.arb = s.arb) : t.ownLaws :=
    ownLaws_of_emptied hfill (by rw [hlines]; rfl)
      ⟨hscan, (by rw [hunit]; exact h.rests.unit), (outstanding_congr harb _).trans h.rests.idle⟩
  unfold State.completeAdvance
  split
  · exact ownLaws_of_Decides (Decides_retake _) (emptied rfl rfl rfl rfl rfl)
  · exact emptied rfl rfl rfl rfl rfl
  · dsimp only
    split <;> exact emptied rfl rfl rfl rfl rfl
  all_goals exact ownLaws_of_freeHand h

theorem completeApply_ownLaws {s : State} (h : s.freeHand) : s.completeApply.ownLaws := by
  unfold State.completeApply
  refine ownLaws_of_Decides (Decides_retake _) (ownLaws_of_ended h ?_ ?_ rfl rfl ?_ rfl ?_ ?_)
  all_goals simp [State.endOperation]

theorem completeFormat_ownLaws {s : State} (h : s.freeHand) : s.completeFormat.ownLaws := by
  unfold State.completeFormat
  refine ownLaws_of_Decides (Decides_retake _) (ownLaws_of_emptied rfl ?_ ⟨rfl, ?_, ?_⟩)
  · simp [State.endOperation, Filter.empty]
  · simpa [State.endOperation] using h.rests.unit
  · exact (outstanding_congr (by simp [State.endOperation]) _).trans h.rests.idle

theorem applyNotEmpty_ownLaws {s : State} (h : s.freeHand) : s.applyNotEmpty.ownLaws :=
  ownLaws_of_Decides (Decides_retake _) (ownLaws_of_ended h rfl rfl rfl rfl rfl rfl rfl rfl)

theorem anchorDone_ownLaws {s : State} (h : s.freeHand) : s.anchorDone.ownLaws := by
  unfold State.anchorDone
  repeat' split
  · exact startScrub_ownLaws h.rests
  · exact completeAdvance_ownLaws h _
  · exact completeAdvance_ownLaws h _
  · exact completeApply_ownLaws h
  · exact startFormatAnchor_ownLaws h _
  · exact completeFormat_ownLaws h
  all_goals exact ownLaws_of_freeHand h

/-! ## Rollback (R105 to R107) -/

theorem endRollback_ownLaws {s : State} (h : s.freeHand) (rb : Rollback) : (s.endRollback rb).ownLaws := by
  unfold State.endRollback
  repeat' split
  · exact startAdvance_ownLaws h
  · exact ownLaws_of_ended h rfl rfl rfl rfl rfl rfl rfl rfl
  · exact ownLaws_of_ended h rfl rfl rfl rfl rfl rfl rfl rfl

theorem rollTo_ownLaws {s : State} (h : s.freeHand) (rb : Rollback) : (s.rollTo rb).ownLaws := by
  have free : (s.setJc { s.jc with rollback := some rb }).freeHand := freeHand_setJc h rfl rfl rfl h.rests.scan
  unfold State.rollTo
  dsimp only
  split
  · exact ownLaws_reads free.records free.rests.scan (.inl free.rests.unit) rfl
  · exact endRollback_ownLaws free rb

theorem startRollback_ownLaws {s : State} (h : s.freeHand) : s.startRollback.ownLaws :=
  rollTo_ownLaws (freeHand_setStep h _) _

/-- A line that the rollback restores lies outside the journal and in range (R38, R106). -/
theorem clearOf_restored {s : State} {g : Geometry} (hg : s.jc.geom = some g) {bs : List Byte}
    (hline : s.restorable (slotLine bs) = true) :
    (MemOp.writes .lineWrite (slotLine bs * 64) (slotImage bs)).clearOf g := by
  obtain ⟨h1, h2⟩ := (restorable_iff hg _).mp hline
  have hspace := lines_le s.memSize
  have hlen : (slotImage bs).length ≤ 64 := by simp [slotImage, slice]
  unfold MemOp.clearOf
  rw [writes_cells_length]
  simp only [MemOp.writes]
  omega

theorem rollbackSlot_ownLaws {s : State} (h : s.freeHand) (rb : Rollback) (bs : List Byte) (merr : Bool) :
    (s.rollbackSlot rb bs merr).ownLaws := by
  unfold State.rollbackSlot
  dsimp only
  split
  · rename_i happ
    refine ⟨records_kept h.records rfl rfl rfl rfl rfl,
      ⟨fun c n rest hop => ?_, fun op ho _ => ?_⟩, fun hr => ?_, fun sc hsc => ?_⟩
    · exact absurd (h.rests.unit.symm.trans hop) nofun
    · rw [request_outstanding_self] at ho
      cases ho
      rw [if_neg (by simp [MemOp.writes])]
      exact fun g hg => clearOf_restored hg happ.2
    · change s.anchors.reading = true at hr
      simp [Anchors.reading, h.rests.unit] at hr
    · exact absurd (h.rests.scan.symm.trans hsc) nofun
  · split <;> exact rollTo_ownLaws h _

/-! ## The journal scan (R125 to R129) -/

/-- The slots below k of the active journal are current records, and k is no more than their number (R125). -/
def State.scannedUpTo (s : State) (k : Nat) : Prop :=
  ∃ g, s.jc.geom = some g ∧ k ≤ g.count ∧ ∀ j, j < k → s.holdsRecord g j

/-- The Journal Controller has nothing at the arbiter, whatever it scans, and its configuration is legal. -/
structure State.scanHand (s : State) : Prop where
  records : s.records
  unit : s.anchors.op = none
  idle : s.outstanding .journal = none
  active : ∀ g, s.jc.geom = some g → g.lawful s.memSize
  windows : s.eightWindows

theorem scanHand_of_freeHand {s : State} (h : s.freeHand) : s.scanHand :=
  ⟨h.records, h.rests.unit, h.rests.idle, h.active, h.windows⟩

/-- Fill becomes the number of current records met (R128). -/
theorem freeHand_of_scanned {s : State} (h : s.scanHand) {k : Nat} (hk : s.scannedUpTo k) :
    ((s.setJc { s.jc with fill := k, scan := none }).setFilter .empty).freeHand := by
  obtain ⟨g, hg, hle, hrec⟩ := hk
  refine ⟨⟨fun g' hg' => ?_, fun hn => ?_, fun g' j hg' hj => ?_, nofun⟩, ⟨rfl, h.unit, h.idle⟩, h.active, h.windows⟩
  · cases hg.symm.trans hg'
    exact hle
  · exact absurd (hg.symm.trans hn) nofun
  · cases hg.symm.trans hg'
    exact hrec j hj

theorem endScan_ownLaws {s : State} (h : s.scanHand) {k : Nat} (hk : s.scannedUpTo k) (reason : StopReason)
    (cls : Option SlotClass) (n line : Nat) : (s.endScan reason cls k n line).ownLaws := by
  have free := freeHand_of_scanned h hk
  have reported r := freeHand_setJc free (j := { ((s.setJc { s.jc with fill := k, scan := none }).setFilter .empty).jc with
    working := some r }) rfl rfl rfl rfl
  unfold State.endScan
  dsimp only
  repeat' split
  · exact ownLaws_of_ended free rfl rfl rfl rfl rfl rfl rfl rfl
  · rename_i hzero
    exact ownLaws_of_ended free rfl rfl hzero.symm rfl rfl rfl rfl rfl
  · exact startRollback_ownLaws (reported _)
  · exact ownLaws_of_ended free rfl rfl rfl rfl rfl rfl rfl rfl
  · exact startRollback_ownLaws free

/-- The scan goes on to slot k, the slots below it being current records (R125). -/
theorem scanTo_ownLaws {s : State} (h : s.scanHand) {k : Nat} (hk : s.scannedUpTo k) : (s.scanTo k).ownLaws := by
  obtain ⟨g, hg, hle, hrec⟩ := id hk
  unfold State.scanTo
  dsimp only
  split
  · rename_i hlt
    rw [activeGeom_of hg] at hlt ⊢
    refine ⟨records_kept h.records rfl rfl rfl rfl rfl,
      ⟨fun c n rest hop => ?_, fun op ho hw => ?_⟩, fun hr => ?_, fun sc hsc => ?_⟩
    · exact absurd (h.unit.symm.trans hop) nofun
    · rw [request_outstanding_self] at ho
      cases ho
      cases hw
    · change s.anchors.reading = true at hr
      simp [Anchors.reading, h.unit] at hr
    · cases hsc
      exact ⟨g, hg, hlt, hrec, fun _ => request_outstanding_self _ _ _⟩
  · exact endScan_ownLaws (s := s.setJc { s.jc with scan := some ⟨k, false, 0⟩ })
      ⟨records_kept h.records rfl rfl rfl rfl rfl, h.unit, h.idle, h.active, h.windows⟩ ⟨g, hg, hle, hrec⟩ _ _ _ _

theorem startScan_ownLaws {s : State} (h : s.freeHand) (hg : s.jc.geom ≠ none) (x : Step) : (s.startScan x).ownLaws := by
  obtain ⟨g, hg⟩ := Option.ne_none_iff_exists'.mp hg
  exact scanTo_ownLaws (scanHand_of_freeHand (freeHand_setStep h x)) ⟨g, hg, by omega, fun j hj => absurd hj (by omega)⟩

/-- A slot read whole and without MERR as CURRENT is one record more (R24, R125). -/
theorem scanSlot_ownLaws {s : State} (h : s.scanHand) {g : Geometry} (hg : s.jc.geom = some g) {k : Nat}
    (hpos : k < g.count) (hrec : ∀ j, j < k → s.holdsRecord g j) (merr : Bool) :
    (s.scanSlot k (s.slot g k) merr).ownLaws := by
  have upTo : s.scannedUpTo k := ⟨g, hg, hpos.le, hrec⟩
  unfold State.scanSlot
  dsimp only
  repeat' split
  · rename_i hcur
    refine scanTo_ownLaws h ⟨g, hg, hpos, fun j hj => ?_⟩
    obtain hj | rfl := Nat.lt_succ_iff_lt_or_eq.mp hj
    · exact hrec j hj
    · have hm : merr = false := by
        cases merr
        · rfl
        · simp [classify] at hcur
      rw [hm] at hcur
      exact hcur
  · rw [State.lookAhead]
    refine ⟨records_kept h.records rfl rfl rfl rfl rfl,
      ⟨fun c n rest hop => ?_, fun op ho hw => ?_⟩, fun hr => ?_, fun sc hsc => ?_⟩
    · exact absurd (h.unit.symm.trans hop) nofun
    · rw [request_outstanding_self] at ho
      cases ho
      cases hw
    · change s.anchors.reading = true at hr
      simp [Anchors.reading, h.unit] at hr
    · cases hsc
      exact ⟨g, hg, hpos, hrec, nofun⟩
  · exact endScan_ownLaws h upTo _ _ _ _
  · exact endScan_ownLaws h upTo _ _ _ _

/-! ## The drain, and the selection (R82, R90) -/

theorem drainDone_ownLaws {s : State} (h : s.freeHand) : s.drainDone.ownLaws := by
  unfold State.drainDone
  repeat' split
  · exact startAdvance_ownLaws h
  · exact startRollback_ownLaws h
  · exact startApplyAnchor_ownLaws h
  · exact applyNotEmpty_ownLaws h
  · exact startScrub_ownLaws h.rests
  all_goals exact ownLaws_of_freeHand h

/-- The selection finds an empty journal and leaves one (R25, R119, R123). -/
theorem selectAnchor_ownLaws {s : State} (hr : s.records) (hfill : s.jc.fill = 0) (hscan : s.jc.scan = none)
    (hidle : s.outstanding .journal = none) (hw : s.eightWindows) {a b : Option Anchor}
    (ha : ∀ x, a = some x ∨ b = some x → x.geom.lawful s.memSize ∧ x.setup.windows.length = 8) :
    (s.selectAnchor a b).ownLaws := by
  have hlines := lines_of_empty hr hfill
  obtain ⟨-, e⟩ | ⟨k, x, -, hx, hnext⟩ := selectAnchor_cases s a b
  · rw [e]
    exact ownLaws_of_emptied rfl hlines ⟨rfl, rfl, hidle⟩
  · obtain ⟨hlaw, hwin⟩ := ha x hx
    have free : (s.chosen k x).freeHand := by
      refine ⟨records_of_empty hfill hlines, ⟨hscan, rfl, hidle⟩, fun g hg => ?_, ⟨hwin, hw.2⟩⟩
      cases hg
      exact hlaw
    obtain ⟨-, e⟩ | ⟨-, e⟩ := hnext <;> rw [e]
    · exact startScrub_ownLaws free.rests
    · exact startScan_ownLaws free nofun _

theorem copyRead_ownLaws {s : State} (hr : s.records) (hfill : s.jc.fill = 0) (hscan : s.jc.scan = none)
    (hidle : s.outstanding .journal = none) (hw : s.eightWindows) (k : Copy) {a : Option Anchor}
    (ha : ∀ x, a = some x ∨ s.anchors.heldA = some x → x.geom.lawful s.memSize ∧ x.setup.windows.length = 8) :
    (s.copyRead k a).ownLaws := by
  cases k
  · exact ownLaws_reads (s := s.setAnchors { s.anchors with validA := validity a, heldA := a, op := some (.readFirst .b) })
      (records_kept hr rfl rfl rfl rfl rfl) hscan (.inr ⟨rfl, hfill⟩) rfl
  · exact selectAnchor_ownLaws (s := s.setAnchors { s.anchors with validB := validity a })
      (records_kept hr rfl rfl rfl rfl rfl) hfill hscan hidle hw
      fun x hx => ha x hx.symm

end Sys2Proof.Machine
end

section
/-! PROOFS. O59, the events of the Capture Engine and the responses of the host ports: each record is written where fill
stands, and each write that is handed back has its line's record (R28, R52, R76 to R80, R82). -/
namespace Sys2Proof.Machine

open Sys2Proof

/-! ## The capture in flight -/

/-- The engine goes on with entries it had. -/
theorem hostRecords_captures {s t : State} (h : s.keepsRecords t) (hs : s.hostRecords)
    (hentries : ∀ e ∈ t.engine.entries, e ∈ s.engine.entries) (ha : t.portA = s.portA) (hb : t.portB = s.portB)
    (hphase : t.phaseSound) : t.hostRecords where
  inMemory p x w hf hst hres := by
    unfold State.inFlight at hf
    rw [port_congr ha hb] at hf hst
    exact hasRecord_keeps h (hs.inMemory p x w hf hst hres)
  entries e he := by
    unfold State.entrySound
    rw [port_congr ha hb]
    exact hs.entries e (hentries e he)
  phase := hphase

/-- The entries of an engine at work, before the hand-back. -/
theorem entries_of_current {x : Engine} {e : Entry} {ph : EnginePhase} (h : x.current = some ⟨e, ph⟩)
    (hb : Current.handedBack ⟨e, ph⟩ = false) : x.entries = e :: x.queue := by
  simp [Engine.entries, h, hb]

theorem mem_entries_of_current {x : Engine} {e : Entry} {ph : EnginePhase} (h : x.current = some ⟨e, ph⟩)
    (hb : Current.handedBack ⟨e, ph⟩ = false) : e ∈ x.entries := by
  rw [entries_of_current h hb]
  exact List.mem_cons_self

/-- The engine hands a JOURNALED write back whose line has its record (R76, R79, R80). -/
theorem handBack_hostRecords {s : State} (hr : s.records) (hs : s.hostRecords) {p : Port} (hwait : p ∉ s.engine.waiting)
    (hp : ∀ x, (s.port p).txn = some x → s.hasRecord (x.addr / 64)) : (s.handBack p).hostRecords := by
  refine hostRecords_enters (p := p) (sameJournal_of_jc (by simp) (by simp)) hr hs hwait (within_of_eq (by simp)) ?_
    (fun q hq => handBack_port hq) fun x w hf _ => hp x ?_
  · unfold State.handBack
    split
    · exact (outstanding_capture_request _ _ _).trans (outstanding_congr (by simp) _)
    · rfl
  · obtain ⟨hx, -⟩ := hf
    unfold State.handBack at hx
    split at hx
    · cases p <;> simpa [State.port, State.setPort] using hx
    · exact hx

theorem handBack_workRecords {s : State} (h : s.journalRests) (p : Port) : (s.handBack p).workRecords := by
  refine workRecords_of_rest ⟨by simpa using h.scan, by simpa using h.unit, ?_⟩
  unfold State.handBack
  split
  · exact ((request_outstanding_other _ _ (portRequester_ne_journal p)).trans (outstanding_congr (by simp) _)).trans h.idle
  · exact h.idle

theorem handBack_journalLaws {s : State} (hr : s.records) (hs : s.hostRecords) (h : s.journalRests) {p : Port}
    (hwait : p ∉ s.engine.waiting) (hp : ∀ x, (s.port p).txn = some x → s.hasRecord (x.addr / 64)) :
    (s.handBack p).journalLaws :=
  ⟨records_kept hr (by simp) (by simp) (by simp) (by simp) (by simp), handBack_hostRecords hr hs hwait hp,
    handBack_workRecords h p⟩

/-- The write of an entry is on the entry's line. -/
theorem line_of_entry {s : State} {e : Entry} (h : s.entrySound e) {x : Txn} (hx : (s.port e.port).txn = some x) :
    x.addr / 64 = e.line := by
  obtain ⟨y, hy, hl, -⟩ := h
  cases hx.symm.trans hy
  exact hl

/-- A hit hands back a write whose line is tracked, and a miss begins a capture (R51, R76). -/
theorem takeEntry_journalLaws {s : State} {e : Entry} {rest : List Entry} (h : s.journalLaws) (hserved : s.hostServed)
    (hrests : s.journalRests) (hengine : s.engine = ⟨e :: rest, none⟩) : (s.takeEntry e rest).journalLaws := by
  obtain ⟨hr, hs, -⟩ := h
  have hentries : s.engine.entries = e :: rest := by simp [hengine, Engine.entries]
  have hentry := hs.entries e (by rw [hentries]; exact List.mem_cons_self)
  have hwait : s.engine.waiting = e.port :: rest.map Entry.port := by simp [hengine, Engine.waiting]
  obtain ⟨-, -, hfree, -⟩ := waiting_head hserved hwait
  have keeps {t : State} (hmem : t.mem = s.mem) (hjc : t.jc = s.jc) : s.keepsRecords t :=
    keepsRecords_of_sameJournal (sameJournal_of_jc hmem hjc) hr
  unfold State.takeEntry
  split
  · rename_i hhit
    refine handBack_journalLaws (s := s.setEngine ⟨rest, some ⟨e, .hit⟩⟩) (records_kept hr rfl rfl rfl rfl rfl) ?_
      ⟨hrests.scan, hrests.unit, hrests.idle⟩ (by simpa [Engine.waiting, Current.handedBack] using hfree) fun x hx => ?_
    · refine hostRecords_captures (keeps rfl rfl) hs (fun e' he => ?_) rfl rfl (phaseSound_of_reading fun c hc => ?_)
      · rw [hentries]
        exact List.mem_cons_of_mem _ he
      · cases hc
        exact .inr rfl
    · rw [line_of_entry hentry hx]
      exact hasRecord_keeps (keeps rfl rfl) (hr.lines _ (of_decide_eq_true hhit))
  · refine ⟨records_kept hr rfl rfl rfl rfl rfl, hostRecords_captures (keeps rfl rfl) hs (fun e' he => ?_) rfl rfl
      (phaseSound_of_reading fun c hc => ?_), workRecords_of_rest ⟨hrests.scan, hrests.unit, ?_⟩⟩
    · rw [hentries]
      exact he
    · cases hc
      exact .inl rfl
    · exact (request_outstanding_other _ _ (by simp)).trans hrests.idle

/-- The filter tracks the captured line, whose record stands, and its write is handed back (R52, R79). -/
theorem insertion_journalLaws {s : State} {e : Entry} {n : Nat} (h : s.journalLaws) (hserved : s.hostServed)
    (hrests : s.journalRests) (hengine : s.engine.current = some ⟨e, .inserting n⟩) :
    (((s.setFilter (s.filter.take e.line)).setPhase e .captured).handBack e.port).journalLaws := by
  obtain ⟨hr, hs, -⟩ := h
  have hrec := hs.phase.inserting e n hengine
  have hentries := entries_of_current hengine rfl
  have hentry := hs.entries e (mem_entries_of_current hengine rfl)
  obtain ⟨-, -, hfree, -⟩ := waiting_head hserved (waiting_current hengine rfl)
  have same : s.sameJournal ((s.setFilter (s.filter.take e.line)).setPhase e .captured) := sameJournal_of_jc rfl rfl
  have keeps := keepsRecords_of_sameJournal same hr
  refine handBack_journalLaws (s := (s.setFilter (s.filter.take e.line)).setPhase e .captured)
    ⟨hr.range, hr.bare, hr.below, fun l hl => ?_⟩ ?_ ⟨hrests.scan, hrests.unit, hrests.idle⟩
    (by simpa [State.setPhase, Engine.waiting, Current.handedBack] using hfree) fun x hx => ?_
  · have hl : l = e.line ∨ l ∈ s.filter.lines := by
      change l ∈ (s.filter.take e.line).lines at hl
      unfold Filter.take at hl
      split_ifs at hl
      · exact .inr hl
      · exact List.mem_cons.mp hl
      · exact .inr hl
    obtain rfl | hl := hl
    · exact hrec
    · exact hr.lines l hl
  · refine hostRecords_captures keeps hs (fun e' he => ?_) rfl rfl (phaseSound_of_reading fun c hc => ?_)
    · rw [hentries]
      exact List.mem_cons_of_mem _ he
    · cases hc
      exact .inr rfl
  · rw [line_of_entry hentry hx]
    exact hasRecord_keeps keeps hrec

/-- A read line gives the capture its 64 bytes (R77). -/
theorem lineRead_journalLaws {s : State} {e : Entry} {op : MemOp} (hr : s.records) (hs : s.hostRecords)
    (hrests : s.journalRests) (hengine : s.engine.current = some ⟨e, .reading⟩) (hwords : op.words = 16) :
    (s.setPhase e (.reserving (s.bytesOf op))).journalLaws := by
  have same : s.sameJournal (s.setPhase e (.reserving (s.bytesOf op))) := sameJournal_of_jc rfl rfl
  refine ⟨records_kept hr rfl rfl rfl rfl rfl, hostRecords_captures (keepsRecords_of_sameJournal same hr) hs
    (fun e' he => ?_) rfl rfl ⟨fun e' i hc => ?_, fun e' k hc => ?_, fun e' k hc => ?_⟩,
    workRecords_of_rest ⟨hrests.scan, hrests.unit, hrests.idle⟩⟩
  · rw [entries_of_current hengine rfl]
    exact he
  · cases hc
    simp [State.bytesOf, hwords]
  · cases hc
  · cases hc

/-- A granted reservation writes the record of slot fill (R27, R78). -/
theorem reserve_journalLaws {s : State} {e : Entry} {image : List Byte} (hr : s.records) (hs : s.hostRecords)
    (hrests : s.journalRests) (hengine : s.engine.current = some ⟨e, .reserving image⟩)
    (hfill : s.jc.fill < s.activeGeom.count) :
    ((s.setPhase e (.writing s.jc.fill)).request .capture (.writes .recordWrite (s.activeGeom.slotAddr s.jc.fill)
      (captureRecord e.window s.jc.fill e.line s.jc.epoch image))).journalLaws := by
  have himage := hs.phase.reserving e image hengine
  obtain ⟨g, hg⟩ : ∃ g, s.jc.geom = some g := by
    cases hg : s.jc.geom with
    | none => simp [State.activeGeom, hg] at hfill
    | some g => exact ⟨g, rfl⟩
  rw [activeGeom_of hg] at hfill ⊢
  refine ⟨records_kept hr rfl rfl rfl rfl rfl, hostRecords_captures
    (keepsRecords_of_sameJournal (s := s) (sameJournal_of_jc rfl rfl) hr) hs (fun e' he => ?_) rfl rfl
    ⟨fun e' i hc => ?_, fun e' k hc => ?_, fun e' k hc => ?_⟩, workRecords_of_rest ⟨hrests.scan, hrests.unit, ?_⟩⟩
  · rw [entries_of_current hengine rfl]
    exact he
  · cases hc
  · cases hc
    refine ⟨g, image, hg, rfl, hfill, himage, ?_⟩
    rw [request_outstanding_self]
    simp only [MemOp.writes, captureRecord_length himage]
    rfl
  · cases hc
  · exact (request_outstanding_other _ _ (by simp)).trans hrests.idle

/-- A slot holds the 80 bytes written to it (R20, R172). -/
theorem slot_written {s : State} {g : Geometry} {k : Nat} {bs : List Byte} (hfit : slotAt g k + 80 ≤ addressSpace)
    (hlen : bs.length = 80) (p : Purpose) (n : Nat) : (s.storeCells ⟨p, slotAt g k, n, bs.map some⟩).slot g k = bs := by
  refine List.ext_getElem? fun i => ?_
  unfold State.slot
  by_cases hi : i < 80
  · have hget : (bs.map some)[i]? = some (some bs[i]) := by simp [hlen, hi]
    rw [Mem.readBytes_get _ _ _ _ hi, storeCells_mem,
      Mem.read_writeCells _ _ _ (by rw [List.length_map]; omega) i _ hget, List.getElem?_eq_getElem (by omega)]
  · rw [List.getElem?_eq_none (by simp; omega), List.getElem?_eq_none (by omega)]

/-- The other slots keep their bytes (R172). -/
theorem slot_other {s : State} {g : Geometry} {m : MemSize} (hg : g.lawful m) {j k : Nat} (hj : j < g.count)
    (hk : k < g.count) (hne : j ≠ k) {bs : List Byte} (hlen : bs.length = 80) (p : Purpose) (n : Nat) :
    (s.storeCells ⟨p, slotAt g k, n, bs.map some⟩).slot g j = s.slot g j := by
  obtain ⟨-, -, hfitj⟩ := slot_in_extent hg hj
  obtain ⟨-, -, hfitk⟩ := slot_in_extent hg hk
  refine slot_eq_of_read hfitj fun a h1 h2 => Mem.read_writeCells_other _ _ _ _ fun i b hi => ?_
  have hlt := (List.getElem?_eq_some_iff.mp hi).1
  rw [List.length_map, hlen] at hlt
  rw [Nat.mod_eq_of_lt (show slotAt g k + i < addressSpace by omega)]
  change a ≠ slotAt g k + i
  unfold slotAt at h1 h2 ⊢
  omega

/-- A completed record is one more below fill, and the record of its line (R26, R28, R80). -/
theorem recordWritten_journalLaws {s : State} {e : Entry} {op : MemOp} {n : Nat} (h : s.journalLaws)
    (hserved : s.hostServed) (hrests : s.journalRests) (hactive : ∀ g, s.jc.geom = some g → g.lawful s.memSize)
    (hline : e.line < 4294967296) (hcur : s.arb.current = some (.capture, op))
    (hengine : s.engine.current = some ⟨e, .writing n⟩) :
    (((s.release.storeCells op).setPhase e (.inserting n)).countRecord).journalLaws := by
  obtain ⟨hr, hs, -⟩ := h
  obtain ⟨g, image, hg, rfl, hlt, himage, hop⟩ := hs.phase.writing e n hengine
  have hq := hserved.single .capture _ (by simp) hcur
  obtain rfl : op = _ := Option.some.inj ((outstanding_current hcur hq).symm.trans hop)
  have hlaw := hactive g hg
  obtain ⟨-, hmax, -⟩ := id hlaw
  obtain ⟨-, -, hfit⟩ := slot_in_extent hlaw hlt
  have hlen := captureRecord_length (window := e.window) (index := s.jc.fill) (line := e.line) (epoch := s.jc.epoch) himage
  obtain ⟨-, -, hslotLine, -⟩ := slotBytes_fields (kind := kindCapture) (window := e.window) (index := s.jc.fill)
    (epoch := s.jc.epoch) (image := image) (by omega) hline
  rw [countRecord_eq]
  generalize ht : ({ (s.release.storeCells _).setPhase e _ with jc := _, attn := _ } : State) = t
  have hmem j : t.slot g j = (s.storeCells ⟨.recordWrite, slotAt g s.jc.fill, 20,
      (captureRecord e.window s.jc.fill e.line s.jc.epoch image).map some⟩).slot g j := by rw [← ht]; rfl
  have hjc : t.jc = { s.jc with fill := s.jc.fill + 1 } := by rw [← ht]; rfl
  have hnew : t.slot g s.jc.fill = captureRecord e.window s.jc.fill e.line s.jc.epoch image :=
    (hmem _).trans (slot_written hfit hlen _ _)
  have hold j (hj : j < s.jc.fill) : t.slot g j = s.slot g j :=
    (hmem _).trans (slot_other hlaw (by omega) hlt (by omega) hlen _ _)
  have keeps : s.keepsRecords t := by
    refine ⟨by rw [hjc], by rw [hjc]; simp, fun g' k hg' hk => ?_⟩
    cases hg.symm.trans hg'
    exact hold k hk
  have hline' : t.hasRecord e.line := ⟨g, s.jc.fill, by rw [hjc]; exact hg, by rw [hjc]; simp, by rw [hnew]; exact hslotLine⟩
  refine ⟨⟨fun g' hg' => ?_, fun hn => ?_, fun g' k hg' hk => ?_, fun l hl => ?_⟩,
    hostRecords_captures keeps hs (fun e' he => ?_) (by rw [← ht]; rfl) (by rw [← ht]; rfl)
      ⟨fun e' i hc => ?_, fun e' k hc => ?_, fun e' k hc => ?_⟩, workRecords_of_rest ⟨?_, ?_, ?_⟩⟩
  · rw [hjc] at hg' ⊢
    cases hg.symm.trans hg'
    exact hlt
  · rw [hjc] at hn
    exact absurd (hg.symm.trans hn) nofun
  · rw [hjc] at hg' hk
    cases hg.symm.trans hg'
    unfold State.holdsRecord
    have hepoch : t.jc.epoch = s.jc.epoch := by rw [hjc]
    rw [hepoch]
    obtain hk | rfl := Nat.lt_succ_iff_lt_or_eq.mp hk
    · rw [hold k hk]
      exact hr.below g k hg hk
    · rw [hnew, classify_captureRecord himage (by omega) hline, if_neg (by simp), if_neg (by simp)]
  · exact hasRecord_keeps keeps (hr.lines l (by rw [← ht] at hl; exact hl))
  · rw [entries_of_current hengine rfl]
    rw [← ht] at he
    exact he
  · rw [← ht] at hc; cases hc
  · rw [← ht] at hc; cases hc
  · rw [← ht] at hc
    cases hc
    exact hline'
  · rw [hjc]; exact hrests.scan
  · rw [← ht]; exact hrests.unit
  · have harb : t.arb = s.release.arb := by rw [← ht]; rfl
    exact ((outstanding_congr harb _).trans (release_outstanding_journal hcur nofun)).trans hrests.idle

/-! ## Responses, and the drain (R82) -/

/-- The configuration of an operation past its drain: what `freeHand` adds to the records. -/
theorem freeHand_of {s : State} (hr : s.records) (hrests : s.journalRests) (hlaw : s.lawfulConfig) : s.freeHand :=
  ⟨hr, hrests, hlaw.active, hlaw.windows⟩

/-- A port whose transaction is over leaves the drain, and with the last one the operation's own work begins (R82). -/
theorem portResponded_journalLaws {s : State} (h : s.journalLaws) (hserved : s.hostServed) (hop : s.operationSound)
    (hdrain : ∀ p ∈ s.jc.drain, s.jc.op ≠ .none ∧ s.journalRests) (hwrite : ∀ q, s.writeSound q)
    (hactive : ∀ g, s.jc.geom = some g → g.lawful s.memSize) (hwin : s.eightWindows) {p : Port} (hp : ¬ s.underWay p) :
    (s.portResponded p).journalLaws := by
  unfold State.portResponded
  dsimp only
  split
  · rename_i hmem
    obtain ⟨ho, hrests⟩ := hdrain p hmem
    split
    · rename_i hrest
      have landed : s.landed := by
        refine fun q x hx => ⟨(hwrite q x hx).1, fun hk hu => ?_⟩
        obtain ⟨-, hq⟩ := admits_of_busy hop ho ((hwrite q x hx).2 hk hu).2.1
        have hne : q ≠ p := fun e => hp (e ▸ hu)
        have : q ∈ s.jc.drain.filter fun r => r ≠ p := List.mem_filter.mpr ⟨hq, by simpa using hne⟩
        rw [hrest] at this
        cases this
      refine works_journalLaws (drainDone_works _) (hostServed_of_arb hserved rfl rfl rfl rfl)
        (landed_congr landed rfl rfl) (drainDone_ownLaws ?_)
      exact ⟨records_kept h.1 rfl rfl rfl rfl rfl, ⟨hrests.scan, hrests.unit, hrests.idle⟩, hactive, hwin⟩
    · exact journalLaws_congr (s := s) (sameJournal_of_mem rfl rfl rfl rfl) rfl rfl rfl rfl rfl rfl rfl rfl h
  · exact h

/-- An accepted operation waits for its drain, or begins its own work at once (R17, R82). -/
theorem startDrain_journalLaws {s : State} (h : s.journalLaws) (hserved : s.hostServed) (hrests : s.journalRests)
    (hwrite : ∀ q, s.writeSound q) (hactive : ∀ g, s.jc.geom = some g → g.lawful s.memSize) (hwin : s.eightWindows)
    (st : JournalState) (op : LongOp) {ports : List Port} (hports : ports = s.toDrain ∨ s.landed) :
    ((s.accept st op).startDrain ports).journalLaws := by
  unfold State.startDrain
  dsimp only
  split
  · rename_i hnil
    have landed : s.landed := by
      obtain e | hl := hports
      · refine fun q x hx => ⟨(hwrite q x hx).1, fun _ hu => ?_⟩
        have hq : q ∈ s.toDrain := by
          unfold State.toDrain
          rw [List.mem_filter]
          exact ⟨by cases q <;> simp, decide_eq_true hu⟩
        rw [← e, hnil] at hq
        cases hq
      · exact hl
    refine works_journalLaws (drainDone_works _) (hostServed_of_arb hserved rfl rfl rfl rfl)
      (landed_congr landed rfl rfl) (drainDone_ownLaws ?_)
    exact ⟨records_kept h.1 rfl rfl rfl rfl rfl, ⟨hrests.scan, hrests.unit, hrests.idle⟩, hactive, hwin⟩
  · exact journalLaws_congr (s := s) (sameJournal_of_mem rfl rfl rfl rfl) rfl rfl rfl rfl rfl rfl rfl rfl h

end Sys2Proof.Machine
end

section
/-! PROOFS. O59: every event keeps the laws of the journal (R25, R26, R33, R38, R49, R80, R125). -/
namespace Sys2Proof.Machine

open Sys2Proof

/-- The engine refuses its entry's write, and fill and filter stay (R29, R77, R78). -/
theorem refuseEntry_journalLaws {s : State} {e : Entry} (h : s.journalLaws)
    (hbut : (s.setEngine { s.engine with current := none }).servedBut e.port)
    (hout : s.outstanding (portRequester e.port) = none)
    (hwait : e.port ∉ Engine.waiting { s.engine with current := none }) (hop : s.operationSound)
    (hdrain : ∀ p ∈ s.jc.drain, s.jc.op ≠ .none ∧ s.journalRests) (hwrite : ∀ q, s.writeSound q)
    (hlaw : s.lawfulConfig) (why : Reason) : (s.refuseEntry e why).journalLaws := by
  obtain ⟨hr, hs, hw⟩ := h
  have freed : (s.setEngine { s.engine with current := none }).hostRecords :=
    hostRecords_of (s := s) (sameJournal_of_jc rfl rfl) hr hs ⟨fun _ h => h, nofun⟩ rfl (fun _ _ => rfl)
      fun _ _ _ hf hst _ => .inl ⟨hf, hst⟩
  unfold State.refuseEntry
  dsimp only
  split
  · rename_i x hx
    have hrest := refuse_stage (s.setEngine { s.engine with current := none }) e.port x why
    refine portResponded_journalLaws ⟨?_, ?_, ?_⟩ (refuse_hostServed hbut hout hwait nofun x why) ?_ ?_
      (refuse_writeSound (s := s.setEngine { s.engine with current := none }) hwrite hx why) ?_ ?_
      (by simp [State.underWay, hrest])
    · exact records_kept hr (by simp) (by simp) (by simp) (by simp) (by simp)
    · exact hostRecords_move (s := s.setEngine { s.engine with current := none }) (sameJournal_of_jc (by simp) (by simp))
        (records_kept hr rfl rfl rfl rfl rfl) freed hwait
        (within_of_eq (by simp)) (outstanding_congr (by simp) _) (fun q hq => refuse_port hq _ _)
        (by simp [State.underWay, hrest])
    · exact workRecords_congr (s := s) (sameJournal_of_jc (by simp) (by simp)) (by simp) (outstanding_congr (by simp) _)
        (by simp) hw
    · simpa [State.operationSound] using hop
    · intro q hq
      obtain ⟨h1, h2⟩ := hdrain q (by simpa using hq)
      exact ⟨by simpa using h1, by simpa using h2.scan, by simpa using h2.unit,
        (outstanding_congr (by simp) _).trans h2.idle⟩
    · simpa using hlaw.active
    · simpa [State.eightWindows] using hlaw.windows
  · exact ⟨records_kept hr rfl rfl rfl rfl rfl, freed, workRecords_congr (s := s) (sameJournal_of_jc rfl rfl) rfl rfl rfl hw⟩

/-- A port that the engine has nothing of goes to rest, and nothing of the journal changes. -/
theorem journalLaws_move {s t : State} {p : Port} (h : s.journalLaws) (hsame : s.sameJournal t)
    (hlines : t.filter = s.filter) (hwait : p ∉ s.engine.waiting) (hengine : t.engine.within s.engine)
    (hcapture : t.outstanding .capture = s.outstanding .capture) (hjournal : t.outstanding .journal = s.outstanding .journal)
    (hport : ∀ q, q ≠ p → t.port q = s.port q) (hp : ¬ t.underWay p) (hunit : t.anchors.op = s.anchors.op)
    (hscan : t.jc.scan = s.jc.scan) : t.journalLaws := by
  obtain ⟨hr, hs, hw⟩ := h
  exact ⟨records_congr hsame (fun l hl => hlines ▸ hl) hr,
    hostRecords_move hsame hr hs hwait hengine hcapture hport hp, workRecords_congr hsame hunit hjournal hscan hw⟩

/-- While a drain waits the Journal Controller rests (R82). -/
theorem drain_rests {s : State} (hstep : s.stepWork) {p : Port} (hp : p ∈ s.jc.drain) : s.journalRests := by
  have hd := draining_of_mem hstep hp
  unfold State.stepWork at hstep
  rw [hd] at hstep
  obtain ⟨hscan, -, -, -, hunit, hidle, -⟩ := hstep
  exact ⟨hscan, hunit, hidle⟩

/-- The completion of another requester's operation leaves the Journal Controller at rest (R172). -/
theorem rests_release {s : State} {r : Requester} {op : MemOp} (h : s.journalRests)
    (hcur : s.arb.current = some (r, op)) (hr : r ≠ .journal) : s.release.journalRests :=
  ⟨h.scan, h.unit, (release_outstanding_journal hcur hr).trans h.idle⟩

/-- With the Journal Controller's completed operation its hand is free for the next (R172). -/
theorem freeHand_release {s : State} {op : MemOp} (hr : s.records) (hone : s.journalSingle) (hlaw : s.lawfulConfig)
    (hcur : s.arb.current = some (.journal, op)) {t : State} (hrec : s.records → t.records)
    (hscan : t.jc.scan = none) (hunit : t.anchors.op = none) (harb : t.arb = s.release.arb)
    (hgeom : t.jc.geom = s.jc.geom) (hmem : t.memSize = s.memSize) (hstore : t.store = s.store) : t.freeHand where
  records := hrec hr
  rests := ⟨hscan, hunit, (outstanding_congr harb _).trans (release_journalIdle hone hcur)⟩
  active := by rw [hgeom, hmem]; exact hlaw.active
  windows := by unfold State.eightWindows; rw [hstore]; exact hlaw.windows

/-- A write of the Journal Controller's own that stores no slot leaves the records (R38, R106). -/
theorem records_stored {s : State} {op : MemOp} (hr : s.records) (hw : s.workRecords) (hlaw : s.lawfulConfig)
    (hout : s.outstanding .journal = some op) (hwrite : op.purpose.isWrite = true) (hscrub : op.purpose ≠ .scrubWrite) :
    (∀ g, s.jc.geom = some g → op.clearOf g) ∧ (s.storeCells op).records := by
  have hclear := hw.1.2 op hout hwrite
  rw [if_neg hscrub] at hclear
  refine ⟨hclear, records_congr (s := s) ⟨rfl, rfl, rfl, fun g k hg hk => ?_⟩ (fun _ hl => hl) hr⟩
  exact slot_writeCells (hclear g hg) (hlaw.active g hg) hk

/-- During a reset there is no journal (R119). -/
theorem empty_of_reset {s : State} (hr : s.records) (hc : s.copiesSound) (hreset : s.inReset = true) :
    s.jc.geom = none ∧ s.jc.fill = 0 ∧ s.filter.lines = [] := by
  have hg := geom_of_reset hc hreset
  have hfill := hr.bare hg
  exact ⟨hg, hfill, lines_of_empty hr hfill⟩

/-- A reset leaves nothing the laws speak of (R119). -/
theorem resetBlocks_journalLaws (s : State) (c : StartCause) : (s.resetBlocks c).journalLaws := by
  refine ⟨records_of_empty rfl rfl, ⟨fun p x w hf _ _ => ?_, nofun, ⟨nofun, nofun, nofun⟩⟩,
    workRecords_of_rest ⟨rfl, rfl, rfl⟩⟩
  obtain ⟨hx, -⟩ := hf
  cases p <;> cases hx

/-- Recovery begins with an empty journal and the read of copy A (R88, R118, R119). -/
theorem endReset_journalLaws {s : State} (h : s.journalLaws) (hscan : s.jc.scan = none) (hfill : s.jc.fill = 0) :
    s.endReset.journalLaws := by
  obtain ⟨hr, hs, -⟩ := h
  refine ⟨records_kept hr rfl rfl rfl rfl rfl, hostRecords_congr (s := s) (sameJournal_of_mem rfl rfl rfl rfl) hr hs rfl ?_ rfl
    rfl, ⟨nofun, fun op ho hw => ?_⟩, fun _ => hfill, fun sc hsc => ?_⟩
  · exact request_outstanding_other _ _ (by simp)
  · rw [State.endReset, request_outstanding_self] at ho
    cases ho
    cases hw
  · exact absurd (hscan.symm.trans hsc) nofun

theorem journalLaws_grantNow {s : State} (h : s.journalLaws) (b : Arbiter) : (s.grantNow b).journalLaws :=
  journalLaws_congr (sameJournal_of_jc (by simp) (by simp)) (by simp) (by simp) (by simp) (by simp)
    (grantNow_outstanding b s _) (grantNow_outstanding b s _) (by simp) (by simp) h

/-- The second part of a copy lies behind the journal as the first does (R38, R85, R91). -/
theorem secondPart_ownLaws {s : State} (hr : s.records) (hactive : ∀ g, s.jc.geom = some g → g.lawful s.memSize)
    (hscan : s.jc.scan = none) {rest : List Byte} (hrest : rest.length = 20) (k : Copy) (seq : Word) :
    ((s.setAnchors { s.anchors with op := some (.writeSecond k seq) }).request
      .journal (.writes .anchorWriteSecond (secondPart k s.memSize) rest)).ownLaws := by
  refine ⟨records_kept hr rfl rfl rfl rfl rfl, ⟨nofun, fun op ho _ => ?_⟩, nofun, fun sc hsc => ?_⟩
  · rw [request_outstanding_self] at ho
    cases ho
    rw [if_neg (by simp [MemOp.writes])]
    exact fun g hg => clearOf_anchor (k := 80) (hactive g hg) k rfl (by rw [writes_cells_length]; omega)
  · exact absurd (hscan.symm.trans hsc) nofun

/-- The scan's read in progress is that of the slot it stands at, whole (R125). -/
theorem scanRead_of_current {s : State} {op : MemOp} {sc : Scan} {g : Geometry} (hstep : s.stepWork)
    (hone : s.journalSingle) (hcur : s.arb.current = some (.journal, op)) (hpurpose : op.purpose = .scanRead)
    (hsc : s.jc.scan = some sc)
    (hread : sc.lookAhead = false → s.outstanding .journal = some ⟨.scanRead, slotAt g sc.pos, 20, []⟩) :
    s.bytesOf op = s.slot g sc.pos := by
  have hout := outstanding_of_current hone hcur
  have hdoes : s.journalDoes (if sc.lookAhead then .lookAheadRead else .scanRead) := by
    obtain ⟨hs, -⟩ := scansFor_of_scan hstep (by simp [hsc])
    unfold State.stepWork at hstep
    obtain ⟨e, -⟩ | ⟨e, -⟩ := hs
    all_goals
      rw [e] at hstep
      obtain ⟨-, -, -, -, ⟨sc', hsc', hdoes⟩, -⟩ := hstep
      cases hsc.symm.trans hsc'
      exact hdoes
  have hlook : sc.lookAhead = false := by
    by_contra hne
    obtain ⟨op', hop', hp⟩ := hdoes
    cases hout.symm.trans hop'
    rw [if_pos (by simpa using hne), hpurpose] at hp
    cases hp
  cases hout.symm.trans (hread hlook)
  rfl

/-- Every event keeps the laws of the journal; a host write in progress stores in no slot by O58. -/
theorem Event_journalLaws {s t : State} {c : Instr} (he : s.Event c t) (h : s.journalLaws) (hw : s.workSound)
    (hc : s.copiesSound) (hserved : s.hostServed) (hlaw : s.lawfulConfig) (hbare : s.bareSound)
    (hwrite : ∀ p, s.writeSound p)
    (hhost : ∀ p op, s.inReset = false → s.arb.current = some (portRequester p, op) → op.purpose = .hostWrite →
      ∀ g k, s.jc.geom = some g → k < g.count → (s.storeCells op).slot g k = s.slot g k) : t.journalLaws := by
  obtain ⟨hstep, hop, hnone, hone⟩ := id hw
  obtain ⟨hr, hs, hwork⟩ := id h
  have settled {u : State} (hu : u.journalLaws) : (u.settle s.arb).journalLaws := journalLaws_settle hu _
  have same {u : State} (hmem : u.mem = s.mem) (hjc : u.jc = s.jc) (hfilter : u.filter = s.filter)
      (hengine : u.engine = s.engine) (ha : u.portA = s.portA) (hb : u.portB = s.portB) (harb : u.arb = s.arb)
      (hunit : u.anchors = s.anchors) : u.journalLaws :=
    journalLaws_of_arb hmem hjc hfilter hengine ha hb harb hunit h
  have finished {u : State} (hu : u.journalLaws) (hu' : u.hostServed) (k : Option Frame) :
      ((u.finishRetake.setFrame k).settle s.arb).journalLaws :=
    settled (journalLaws_of_arb (s := u.finishRetake) rfl rfl rfl rfl rfl rfl rfl rfl
      (journalLaws_of_Decides (Decides_finishRetake u) hu' hu))
  have drained st op {ports : List Port} (ho : s.jc.op = .none) (hports : ports = s.toDrain ∨ s.landed)
      (k : Option Frame) : ((((s.accept st op).startDrain ports).finishRetake.setFrame k).settle s.arb).journalLaws :=
    finished (startDrain_journalLaws h hserved (journalRests_of_handFree (handFree_of_noOperation hw ho).1) hwrite
      hlaw.active hlaw.windows st op hports)
      (works_hostServed (startDrain_works _ _) (hostServed_of_arb hserved rfl rfl rfl rfl)) k
  have hdrain p (hp : p ∈ s.jc.drain) : s.jc.op ≠ .none ∧ s.journalRests := ⟨op_of_drain hstep hp, drain_rests hstep hp⟩
  /- In DAMAGED no host write is past its decision. -/
  have damaged (ho : s.jc.op = .none) (hst : s.jc.state = .damaged) : s.landed := by
    refine landed_of_busy hwrite fun q hq => ?_
    obtain e | e | ⟨e, hq⟩ := hq
    · simp [hst] at e
    · simp [hst] at e
    · exact (hdrain q hq).1 ho
  have accepted (ho : s.jc.op = .none) st op : (s.accept st op).freeHand :=
    freeHand_setJc (freeHand_of hr (journalRests_of_handFree (handFree_of_noOperation hw ho).1) hlaw) rfl rfl rfl
      (handFree_of_noOperation hw ho).1.scan
  /- A write with the engine is past its decision, and the Journal Controller rests. -/
  have waits {p : Port} {ports : List Port} (hwait : s.engine.waiting = p :: ports) :
      s.journalRests ∧ ∃ x, (s.port p).txn = some x ∧ x.addr < s.memSize.lines * 64 := by
    obtain ⟨hst, ⟨x, hx, hk⟩, -⟩ := waiting_head hserved hwait
    obtain ⟨-, hadmits, -, hrange, -⟩ := (hwrite p x hx).2 hk (.inl hst)
    exact ⟨journalRests_of_admits hw hadmits, x, hx, hrange⟩
  /- The work of the Journal Controller at its completed operation. -/
  have worked {op : MemOp} (hcur : s.arb.current = some (.journal, op)) {v u : State} (hu : v.works u)
      (hengine : v.engine = s.engine) (ha : v.portA = s.portA) (hb : v.portB = s.portB) (harb : v.arb = s.release.arb)
      (hown : u.ownLaws) : (u.settle s.arb).journalLaws := by
    refine settled (works_journalLaws hu ?_ (landed_congr (landed_of_busy hwrite (busy_of_current hw hcur)) ha hb) hown)
    refine hostServed_congr hserved hengine ha hb (fun r hr => ?_)
      (othersSingle_congr (othersSingle_release s) (by rw [harb]) fun r _ => by rw [harb])
    rw [outstanding_congr harb, release_outstanding hcur (hone op hcur), if_neg hr]
  have released {op : MemOp} (hcur : s.arb.current = some (.journal, op)) (hscan : s.jc.scan = none)
      (hunit : s.anchors.op = none) : s.release.freeHand :=
    freeHand_release hr hone hlaw hcur (fun hr => records_kept hr rfl rfl rfl rfl rfl) hscan hunit rfl rfl rfl rfl
  have scanning {op : MemOp} (hcur : s.arb.current = some (.journal, op)) (hunit : s.anchors.op = none) :
      s.release.scanHand :=
    ⟨records_kept hr rfl rfl rfl rfl rfl, hunit, release_journalIdle hone hcur, hlaw.active, hlaw.windows⟩
  have stored {op : MemOp} (hcur : s.arb.current = some (.journal, op)) (hpurpose : op.purpose.isWrite = true)
      (hscrub : op.purpose ≠ .scrubWrite) : (s.storeCells op).records :=
    (records_stored hr hwork hlaw (outstanding_of_current hone hcur) hpurpose hscrub).2
  cases he with
  | idles => exact h
  | follows => exact same rfl rfl rfl rfl rfl rfl rfl rfl
  | samples => exact same rfl rfl rfl rfl rfl rfl rfl rfl
  | begins _ why cut x =>
    exact journalLaws_of_arb (s := (s.tear cut).resetBlocks why) rfl rfl rfl rfl rfl rfl rfl rfl (resetBlocks_journalLaws _ _)
  | ends _ m x _ hreset =>
    obtain ⟨hfree, -⟩ := handFree_of_reset hw hreset
    obtain ⟨-, hfill, -⟩ := empty_of_reset hr hc hreset
    exact journalLaws_grantNow (endReset_journalLaws (s := (s.sampleStraps m).setPins x)
      (same rfl rfl rfl rfl rfl rfl rfl rfl) hfree.scan hfill) _
  | softResets cut =>
    exact journalLaws_grantNow (endReset_journalLaws (resetBlocks_journalLaws _ _) rfl rfl) _
  | frames => exact same rfl rfl rfl rfl rfl rfl rfl rfl
  | falls =>
    refine settled (journalLaws_of_Decides (Decides_finishRetake _) (hostServed_of_arb hserved rfl rfl rfl rfl) ?_)
    exact same rfl rfl rfl rfl rfl rfl rfl rfl
  | rises =>
    refine settled ?_
    unfold State.pfailRises
    split
    · refine journalLaws_of_Decides (Decides_retakeAtFence _ _) (hostServed_of_arb hserved rfl rfl rfl rfl) ?_
      exact same rfl rfl rfl rfl rfl rfl rfl rfl
    · exact same rfl rfl rfl rfl rfl rfl rfl rfl
  | releases f k =>
    refine settled ?_
    refine journalLaws_of_arb (s := (s.changeFence .normal).retakeAtFence s.fallNext) rfl rfl rfl rfl rfl rfl rfl rfl ?_
    refine journalLaws_of_Decides (Decides_retakeAtFence _ _) (hostServed_of_arb hserved rfl rfl rfl rfl) ?_
    exact same rfl rfl rfl rfl rfl rfl rfl rfl
  | commits _ k _ ho => exact drained _ _ ho (.inl rfl) k
  | commitsDamaged _ k _ ho _ hst =>
    have hserved' : (s.accept .committing .commit).hostServed := hostServed_of_arb hserved rfl rfl rfl rfl
    have hworks := works_of_journalOnly (startAdvance_journalOnly (s.accept .committing .commit))
    exact finished (works_journalLaws hworks hserved' (landed_congr (damaged ho hst) rfl rfl)
      (startAdvance_ownLaws (accepted ho _ _))) (works_hostServed hworks hserved') k
  | aborts _ k _ ho => exact drained _ _ ho (.inl rfl) k
  | abortsDamaged _ k _ ho _ hst =>
    have hserved' : (s.accept .aborting .abort).hostServed := hostServed_of_arb hserved rfl rfl rfl rfl
    have hworks := works_of_journalOnly (startScan_journalOnly (s.accept .aborting .abort) .rescanning)
    have hg : s.jc.geom ≠ none := fun e => by
      obtain ⟨-, hx⟩ := hbare e
      simp [hst] at hx
    exact finished (works_journalLaws hworks hserved' (landed_congr (damaged ho hst) rfl rfl)
      (startScan_ownLaws (accepted ho .aborting .abort) hg _)) (works_hostServed hworks hserved') k
  | formats _ k _ ho =>
    refine drained _ _ ho ?_ k
    split
    · rename_i hst
      exact .inr (damaged ho hst)
    · exact .inl rfl
  | applies _ k _ ho => exact drained _ _ ho (.inl rfl) k
  | presents p q _ hidle =>
    have hp : ¬ s.underWay p := by simp [State.underWay, hidle]
    obtain ⟨-, hwait⟩ := portServed_of_rest (hserved.ports p) hp
    exact journalLaws_move (p := p) h (sameJournal_of_jc (by simp) (by simp)) (by simp) hwait (within_of_eq (by simp))
      (outstanding_congr (by simp) _) (outstanding_congr (by simp) _)
      (fun q hq => (port_setPort s p q _).trans (if_neg (Ne.symm hq))) (by simp [State.underWay]) (by simp) (by simp)
  | responds p _ hstage =>
    have hp : ¬ s.underWay p := by simp [State.underWay, hstage]
    obtain ⟨-, hwait⟩ := portServed_of_rest (hserved.ports p) hp
    exact journalLaws_move (p := p) h (sameJournal_of_jc (by simp) (by simp)) (by simp) hwait (within_of_eq (by simp))
      (outstanding_congr (by simp) _) (outstanding_congr (by simp) _)
      (fun q hq => (port_setPort s p q _).trans (if_neg (Ne.symm hq))) (by simp [State.underWay]) (by simp) (by simp)
  | decides p _ hstage => exact settled (journalLaws_of_Decides (.decides .none p (.inl hstage)) hserved h)
  | readCompletes p merr op hreset hcur hpurpose =>
    obtain ⟨-, ⟨x, hx, -⟩, hwait, -⟩ := transaction_of_current hserved hcur
    obtain ⟨h1, h2⟩ := hostReadDone_writeSound (s := s.release) hwrite hx op merr
    have hne := (portRequester_ne_journal p)
    refine settled (portResponded_journalLaws ?_ (hostReadDone_hostServed hserved hcur hpurpose merr) ?_ ?_ h1 ?_ ?_ h2)
    · refine journalLaws_move (p := p) h (sameJournal_of_jc (by simp) (by simp)) (by simp) hwait (within_of_eq (by simp))
        ?_ ?_ (fun q hq => hostReadDone_port hq _ _) h2 (by simp) (by simp)
      · rw [outstanding_congr (s := s.release) (by simp),
          release_outstanding hcur (hserved.single _ _ hne hcur), if_neg (portRequester_ne_capture p).symm]
      · rw [outstanding_congr (s := s.release) (by simp), release_outstanding_journal hcur hne]
    · simpa [State.operationSound] using hop
    · intro q hq
      obtain ⟨ho, hrests⟩ := hdrain q (by simpa using hq)
      have hrests' := rests_release hrests hcur hne
      exact ⟨by simpa using ho, by simpa using hrests'.scan, by simpa using hrests'.unit,
        (outstanding_congr (by simp) _).trans hrests'.idle⟩
    · simpa using hlaw.active
    · simpa [State.eightWindows] using hlaw.windows
  | writeCompletes p op hreset hcur hpurpose =>
    obtain ⟨-, ⟨x, hx, -⟩, hwait, -⟩ := transaction_of_current hserved hcur
    obtain ⟨h1, h2⟩ := hostWriteDone_writeSound (s := s.release.storeCells op) hwrite hx
    have hne := (portRequester_ne_journal p)
    have slots : s.sameJournal ((s.release.storeCells op).hostWriteDone p) :=
      ⟨by simp, by simp, by simp, fun g k hg hk => by
        rw [← hhost p op hreset hcur hpurpose g k hg hk]; simp [State.slot]⟩
    refine settled (portResponded_journalLaws ?_ (hostWriteDone_hostServed hserved hcur) ?_ ?_ h1 ?_ ?_ h2)
    · refine journalLaws_move (p := p) h slots (by simp) hwait ?_ ?_ ?_ (fun q hq => hostWriteDone_port hq) h2 (by simp)
        (by simp)
      · rw [hostWriteDone_eq (s := s.release.storeCells op) hx]
        obtain ⟨c, -, -, -, e⟩ | ⟨e, -⟩ := hostWriteDone_cases s.engine p
        · exact ⟨fun e' he' => by simpa [e] using he', fun c' hc' => by simp [e] at hc'⟩
        · exact within_of_eq (by simp [e])
      · rw [outstanding_congr (s := s.release) (by simp),
          release_outstanding hcur (hserved.single _ _ hne hcur), if_neg (portRequester_ne_capture p).symm]
      · rw [outstanding_congr (s := s.release) (by simp), release_outstanding_journal hcur hne]
    · simpa [State.operationSound] using hop
    · intro q hq
      obtain ⟨ho, hrests⟩ := hdrain q (by simpa using hq)
      have hrests' := rests_release hrests hcur hne
      exact ⟨by simpa using ho, by simpa using hrests'.scan, by simpa using hrests'.unit,
        (outstanding_congr (by simp) _).trans hrests'.idle⟩
    · simpa using hlaw.active
    · simpa [State.eightWindows] using hlaw.windows
  | takesEntry e rest _ hengine =>
    obtain ⟨hrests, -⟩ := waits (p := e.port) (ports := rest.map Entry.port) (by simp [hengine, Engine.waiting])
    exact settled (takeEntry_journalLaws h hserved hrests hengine)
  | lineRead merr op e hreset hcur _ hengine =>
    obtain ⟨hidle, hout⟩ := release_capture_outstanding hserved hcur
    have hwait := waiting_current hengine rfl
    obtain ⟨-, -, hq, hidle'⟩ := waiting_head hserved hwait
    obtain ⟨hrests, -⟩ := waits hwait
    have hrests' := rests_release hrests hcur (by simp)
    have hs' : s.release.hostRecords :=
      hostRecords_captures (keepsRecords_of_sameJournal (s := s) (sameJournal_of_jc rfl rfl) hr) hs (fun _ he => he) rfl rfl
        (phaseSound_of_reading fun c hc => by cases hengine.symm.trans hc; exact .inl rfl)
    have hr' : s.release.records := records_kept hr rfl rfl rfl rfl rfl
    refine settled ?_
    unfold State.lineReadDone
    split
    · refine refuseEntry_journalLaws (s := s.release) ⟨hr', hs', workRecords_of_rest hrests'⟩
        (parted_of_current hserved hengine rfl rfl rfl rfl hout hidle (othersSingle_release s)) ((hout _).trans hidle')
        (by simpa [Engine.waiting] using hq) hop (fun q hq => ⟨(hdrain q hq).1, hrests'⟩) hwrite ?_ _
      exact ⟨hlaw.windows, hlaw.active, hlaw.ready, hlaw.format, hlaw.held, hlaw.reset⟩
    · have hop' : s.outstanding .capture = some op :=
        outstanding_current hcur (hserved.single .capture _ (by simp) hcur)
      have hcw := hserved.capture
      unfold State.captureWork at hcw
      rw [hengine, hop'] at hcw
      cases hcw
      exact lineRead_journalLaws hr' hs' hrests' hengine rfl
  | reserves e image hreset hengine =>
    have hwait := waiting_current hengine rfl
    obtain ⟨-, -, hq, hidle'⟩ := waiting_head hserved hwait
    obtain ⟨hrests, -⟩ := waits hwait
    have hidle : s.outstanding .capture = none := by
      have := hserved.capture
      unfold State.captureWork at this
      rwa [hengine] at this
    refine settled ?_
    unfold State.reserve
    split
    · exact reserve_journalLaws hr hs hrests hengine (by assumption)
    · exact refuseEntry_journalLaws h
        (parted_of_current hserved hengine rfl rfl rfl rfl (fun _ => rfl) hidle hserved.single) hidle'
        (by simpa [Engine.waiting] using hq) hop hdrain hwrite hlaw _
  | recordWritten op e n hreset hcur _ hengine =>
    obtain ⟨hrests, x, hx, hrange⟩ := waits (waiting_current hengine rfl)
    have hline := line_of_entry (hs.entries e (mem_entries_of_current hengine rfl)) hx
    have hspace := lines_le s.memSize
    simp only [addressSpace] at hspace
    exact settled (recordWritten_journalLaws h hserved hrests hlaw.active (by omega) hcur hengine)
  | inserts e n _ hengine =>
    obtain ⟨hrests, -⟩ := waits (waiting_current hengine rfl)
    exact settled (insertion_journalLaws h hserved hrests hengine)
  | firstPartRead merr op k _ hcur _ hunit =>
    have hread : s.anchors.reading = true := by simp [Anchors.reading, hunit]
    obtain ⟨-, hscan, -⟩ := anchorSearch_of_reading hstep hread
    refine worked hcur (works_of_journalOnly (request_journalOnly _ rfl)) rfl rfl rfl rfl
      (ownLaws_reads (s := s.release.setAnchors { s.anchors with op := some (.readSecond k (s.bytesOf op) merr) })
        (records_kept hr rfl rfl rfl rfl rfl) hscan (.inr ⟨rfl, hwork.2.1 hread⟩) rfl)
  | copyRead merr op k first m _ hcur _ hunit =>
    have hread : s.anchors.reading = true := by simp [Anchors.reading, hunit]
    obtain ⟨-, hscan, -⟩ := anchorSearch_of_reading hstep hread
    refine worked hcur (works_of_journalOnly (copyRead_journalOnly _ _ _)) rfl rfl rfl rfl
      (copyRead_ownLaws (s := s.release) (records_kept hr rfl rfl rfl rfl rfl) (hwork.2.1 hread) hscan
        (release_journalIdle hone hcur) hlaw.windows k fun x hx => ?_)
    exact hx.elim readAnchor_legal (hlaw.held x)
  | firstPartWritten op k seq rest _ hcur hpurpose hunit =>
    have hread : s.anchors.reading = false := by simp [Anchors.reading, hunit]
    obtain ⟨hscan, -⟩ := writing_of_unit hstep (by simp [hunit]) hread
    exact worked hcur (works_of_journalOnly (request_journalOnly _ rfl)) rfl rfl rfl rfl
      (secondPart_ownLaws (s := s.release.storeCells op)
        (records_kept (stored hcur (by rw [hpurpose]; rfl) (by rw [hpurpose]; simp)) rfl rfl rfl rfl rfl) hlaw.active hscan
        (hwork.1.1 k seq rest hunit) k seq)
  | copyWritten op k seq _ hcur hpurpose hunit =>
    have hread : s.anchors.reading = false := by simp [Anchors.reading, hunit]
    obtain ⟨hscan, -⟩ := writing_of_unit hstep (by simp [hunit]) hread
    refine worked hcur (anchorDone_works _) rfl rfl rfl rfl (anchorDone_ownLaws
      (freeHand_release hr hone hlaw hcur (fun _ => ?_) hscan rfl rfl rfl rfl rfl))
    exact records_kept (stored hcur (by rw [hpurpose]; rfl) (by rw [hpurpose]; simp)) rfl rfl rfl rfl rfl
  | scrubs op n _ hcur hpurpose hn =>
    obtain ⟨-, hscan, -, hunit, -⟩ := scrubbing_of_scrub hstep (by simp [hn])
    have hfill : s.jc.fill = 0 := by
      have := hwork.1.2 op (outstanding_of_current hone hcur) (by rw [hpurpose]; rfl)
      rwa [if_pos hpurpose] at this
    refine worked hcur (works_of_journalOnly (scrubbed_journalOnly _ n)) rfl rfl rfl rfl (scrubbed_ownLaws
      (s := s.release.storeCells op) (freeHand_release hr hone hlaw hcur (fun _ => ?_) hscan hunit rfl rfl rfl rfl) hfill n)
    exact records_of_empty hfill (lines_of_empty (s := s) hr hfill)
  | scans merr op sc _ hcur hpurpose hsc =>
    obtain ⟨-, -, -, -, hunit⟩ := scansFor_of_scan hstep (by simp [hsc])
    obtain ⟨g, hg, hpos, hrec, hread⟩ := hwork.2.2 sc hsc
    rw [scanRead_of_current hstep hone hcur hpurpose hsc hread]
    refine worked hcur (works_of_journalOnly (scanSlot_journalOnly s.release _ _ _)) rfl rfl rfl rfl
      (scanSlot_ownLaws (scanning hcur hunit) hg hpos hrec merr)
  | looksAhead merr op sc _ hcur _ hsc =>
    obtain ⟨-, -, -, -, hunit⟩ := scansFor_of_scan hstep (by simp [hsc])
    obtain ⟨g, hg, hpos, hrec, -⟩ := hwork.2.2 sc hsc
    refine worked hcur (works_of_journalOnly (lookAheadSlot_journalOnly s.release sc _ _)) rfl rfl rfl rfl
      (endScan_ownLaws (s := s.release) (scanning hcur hunit) ⟨g, hg, hpos.le, hrec⟩ _ _ _ _)
  | rollsBack merr op rb _ hcur hpurpose =>
    obtain ⟨-, hscan, -, -, hunit, -⟩ := rollingBack_of_current hstep hone hcur (.inl hpurpose)
    exact worked hcur (works_of_journalOnly (rollbackSlot_journalOnly s.release rb _ _)) rfl rfl rfl rfl
      (rollbackSlot_ownLaws (released hcur hscan hunit) rb _ _)
  | restores op rb _ hcur hpurpose =>
    obtain ⟨-, hscan, -, -, hunit, -⟩ := rollingBack_of_current hstep hone hcur (.inr hpurpose)
    refine worked hcur (works_of_journalOnly (rollTo_journalOnly _ _)) rfl rfl rfl rfl (rollTo_ownLaws
      (s := s.release.storeCells op) (freeHand_release hr hone hlaw hcur (fun _ => ?_) hscan hunit rfl rfl rfl rfl) _)
    exact records_kept (stored hcur (by rw [hpurpose]; rfl) (by rw [hpurpose]; simp)) rfl rfl rfl rfl rfl
  | answers | stages | validates => exact settled (same rfl rfl rfl rfl rfl rfl rfl rfl)

/-- The lines of the active journal resolve to the reserved area (R19, R39). -/
theorem reserved_of_slot {s : State} (hc : s.copiesSound) {g : Geometry} (hg : s.jc.geom = some g)
    (hlaw : g.lawful s.memSize) {k a : Nat} (hk : k < g.count) (h1 : slotAt g k ≤ a) (h2 : a < slotAt g k + 80) :
    s.decoder.resolve (a / 64) = .reserved := by
  obtain ⟨hdec, hgeom, -⟩ := hc
  obtain ⟨hlow, hhigh, -⟩ := slot_in_extent hlaw hk
  refine resolve_of_reserves (.inr ⟨g.base, g.base + g.extentLines - 1, ?_, by omega, ?_⟩)
  · rw [hdec, ← hgeom, hg]
    rfl
  · unfold Geometry.extentLines
    omega

/-- A host write stores in no slot of the active journal, by O58 (R39). -/
theorem slot_hostWrite {s : State} (hs : s.sound) (hgeom : s.geometrySound) (hwrites : s.writesSound) {p : Port}
    {op : MemOp} (h : s.inPort (portRequester p) .hostWrite op) {g : Geometry} {k : Nat} (hg : s.jc.geom = some g)
    (hk : k < g.count) : (s.storeCells op).slot g k = s.slot g k := by
  obtain ⟨-, hcur, hpurpose, -⟩ := id h
  obtain ⟨-, -, -, hc, -⟩ := id hs
  have hlaw := (lawfulConfig_of_geometrySound hgeom).active g hg
  obtain ⟨-, -, hkept⟩ := noHostWriteReachesTheReservedArea _ s _ hs hgeom hwrites (exec_hostWriteComplete h)
  obtain ⟨-, -, hfit⟩ := slot_in_extent hlaw hk
  refine slot_eq_of_read hfit fun a h1 h2 => ?_
  have := hkept _ op a hcur hpurpose (reserved_of_slot hc hg hlaw hk h1 h2)
  simpa using this

/-- Settles O59: the laws go through every event, and no host write reaches a slot. -/
theorem theJournalKeepsItsRecords : Obligations.TheJournalKeepsItsRecords := by
  intro c s t hs hgeom hwrites hj h
  obtain ⟨-, -, -, hc, -, -, -, hw, hservice⟩ := id hs
  obtain ⟨hserved, -⟩ := (serviceSound_iff hw).mp hservice
  obtain ⟨hlaw, hbare⟩ := geometrySound_iff.mp hgeom
  exact journalSound_iff.mpr (Event_journalLaws (Event_of_exec h) (journalSound_iff.mp hj) hw hc hserved hlaw hbare
    (writesSound_iff.mp hwrites) fun p op hreset hcur hpurpose g k hg hk =>
      slot_hostWrite hs hgeom hwrites ⟨hreset, hcur, hpurpose, hserved.single _ _ (portRequester_ne_journal p) hcur⟩ hg hk)

end Sys2Proof.Machine
end

section
/-! PROOFS. O8, parts that agree but for the arbiter's grants, the free values and the marks: decisions taken in them
leave them agreeing (R63, R70, R174, log 8, log 31). -/
namespace Sys2Proof.Machine

open Sys2Proof

/-! ## Marks (log 31) -/

/-- A transaction as if it had never been held. -/
def Txn.unmarked (x : Txn) : Txn := { x with wasHeld := false }

/-- A port's record as if its write had never been held. -/
def HostPort.unmarked (x : HostPort) : HostPort := { x with txn := x.txn.map Txn.unmarked }

theorem unmarked_stage {x y : HostPort} (h : x.unmarked = y.unmarked) : x.stage = y.stage :=
  (congrArg HostPort.stage h :)

theorem unmarked_bus {x y : HostPort} (h : x.unmarked = y.unmarked) : x.bus = y.bus := (congrArg HostPort.bus h :)

theorem unmarked_idem (x : HostPort) : x.unmarked.unmarked = x.unmarked := by
  cases x with
  | mk stage txn bus => cases txn <;> rfl

/-- Transactions that differ in their marks alone. -/
theorem txn_of_unmarked {x y : Txn} (h : y.unmarked = x.unmarked) : y = { x with wasHeld := y.wasHeld } := by
  cases x
  cases y
  simpa [Txn.unmarked] using h

/-! ## Parts that agree -/

/-- The part without its ports, its arbiter and its free values. -/
def State.core (s : State) : State :=
  { s with
    portA := ⟨.idle, none, none⟩
    portB := ⟨.idle, none, none⟩
    arb := ⟨.journal, none, none, none, none, none⟩
    free := 0 }

/-- Two parts agree in all but grants, free values and marks (log 8, log 31). -/
structure State.alike (s t : State) : Prop where
  core : t.core = s.core
  port : ∀ p, (t.port p).unmarked = (s.port p).unmarked
  outstanding : ∀ r, t.outstanding r = s.outstanding r

theorem alike_refl (s : State) : s.alike s := ⟨rfl, fun _ => rfl, fun _ => rfl⟩

theorem alike_symm {s t : State} (h : s.alike t) : t.alike s :=
  ⟨h.core.symm, fun p => (h.port p).symm, fun r => (h.outstanding r).symm⟩

theorem alike_trans {s t u : State} (h : s.alike t) (h' : t.alike u) : s.alike u :=
  ⟨h'.core.trans h.core, fun p => (h'.port p).trans (h.port p), fun r => (h'.outstanding r).trans (h.outstanding r)⟩

/-- What the statement says of such parts. -/
theorem agrees_of_alike {s t : State} (h : s.alike t) : s.agrees t := by
  refine ⟨?_, fun r => (h.outstanding r).symm⟩
  have both (u : State) : (u.unmarked .a).unmarked .b
      = { u.core with portA := u.portA.unmarked, portB := u.portB.unmarked, arb := u.arb, free := u.free } := rfl
  have ha : t.portA.unmarked = s.portA.unmarked := h.port .a
  have hb : t.portB.unmarked = s.portB.unmarked := h.port .b
  rw [both, both, h.core, ha, hb]

theorem settle_core (b : Arbiter) (s : State) : (s.settle b).core = s.core := by
  conv_lhs => rw [settle_frame]
  rfl

theorem settle_port (b : Arbiter) (s : State) (p : Port) : (s.settle b).port p = s.port p :=
  port_congr (by simp) (by simp) p

theorem alike_settle (b : Arbiter) (s : State) : s.alike (s.settle b) :=
  ⟨settle_core b s, fun p => by rw [settle_port], settle_outstanding b s⟩

theorem alike_asked (s : State) : s.alike s.asked := ⟨rfl, fun _ => rfl, fun _ => rfl⟩

theorem stage_of_alike {s t : State} (h : s.alike t) (p : Port) : (t.port p).stage = (s.port p).stage :=
  unmarked_stage (h.port p)

/-- Two changes of one port that leave agreeing records leave agreeing parts. -/
theorem alike_setPort {s t : State} (h : s.alike t) (p : Port) {x y : HostPort} (hxy : y.unmarked = x.unmarked) :
    (s.setPort p x).alike (t.setPort p y) := by
  refine ⟨?_, fun q => ?_, fun r => ?_⟩
  · have e (u : State) z : (u.setPort p z).core = u.core := by cases p <;> rfl
    rw [e, e, h.core]
  · rw [port_setPort, port_setPort]
    split
    · exact hxy
    · exact h.port q
  · have e (u : State) z : (u.setPort p z).outstanding r = u.outstanding r := outstanding_congr (by simp) r
    rw [e, e]
    exact h.outstanding r

theorem alike_request {s t : State} (h : s.alike t) (r : Requester) (op : MemOp) :
    (s.request r op).alike (t.request r op) := by
  refine ⟨h.core, h.port, fun q => ?_⟩
  by_cases e : r = q
  · subst e
    rw [request_outstanding_self, request_outstanding_self]
  · rw [request_outstanding_other _ _ e, request_outstanding_other _ _ e]
    exact h.outstanding q

theorem alike_setEngine {s t : State} (h : s.alike t) {x y : Engine} (hxy : y = x) :
    (s.setEngine x).alike (t.setEngine y) := by
  subst hxy
  refine ⟨?_, h.port, h.outstanding⟩
  show { t.core with engine := y } = { s.core with engine := y }
  rw [h.core]

theorem alike_setAttn {s t : State} (h : s.alike t) (x : Attention) : (s.setAttn x).alike (t.setAttn x) := by
  refine ⟨?_, h.port, h.outstanding⟩
  show { t.core with attn := x } = { s.core with attn := x }
  rw [h.core]

/-! ## Decisions in parts that agree (R63) -/

/-- A decision goes by its transaction's form and the part's core (R63). -/
theorem judge_alike {s t : State} (h : t.core = s.core) {x y : Txn} (hxy : y.unmarked = x.unmarked) :
    t.judge y = s.judge x := by
  rw [txn_of_unmarked hxy]
  calc t.judge { x with wasHeld := y.wasHeld } = t.core.judge x := rfl
    _ = s.core.judge x := by rw [h]
    _ = s.judge x := rfl

/-- The attention a refusal leaves: the report, and its cause (R73). -/
def Attention.refusing (u : Attention) (p : Port) (x : Txn) (why : Reason) (e : Word) : Attention :=
  { u with
    pending := if x.kind = .write then u.pending ||| (if why = .journalFull then 8 else 16) else u.pending
    fault := match u.fault with
      | some r => some r
      | none => some ⟨p, x.kind, x.addr, x.enables.headD 0, x.len, why, e⟩
    count := match u.fault with
      | some _ => min (u.count + 1) 65535
      | none => 0 }

/-- A refusal changes the attention and its port (R72, R73). -/
theorem refuse_parts (s : State) (p : Port) (x : Txn) (why : Reason) :
    s.refuse p x why = (s.setAttn (s.attn.refusing p x why s.jc.epoch)).setPort p
      { s.port p with stage := .responding, txn := some (x.refused why) } := refuse_eq s p x why

theorem refuse_alike {s t : State} (h : s.alike t) (p : Port) {x y : Txn} (hxy : y.unmarked = x.unmarked)
    (why : Reason) : (s.refuse p x why).alike (t.refuse p y why) := by
  obtain ⟨b, rfl⟩ : ∃ b, y = { x with wasHeld := b } := ⟨_, txn_of_unmarked hxy⟩
  have hbus : (t.port p).bus = (s.port p).bus := unmarked_bus (h.port p)
  have hattn : t.attn = s.attn := (congrArg State.attn h.core :)
  have hjc : t.jc = s.jc := (congrArg State.jc h.core :)
  rw [refuse_parts, refuse_parts, hattn, hjc]
  exact alike_setPort (alike_setAttn h _) p (by simp only [HostPort.unmarked, hbus]; rfl)

theorem enact_alike {s t : State} (h : s.alike t) (p : Port) {x y : Txn} (hxy : y.unmarked = x.unmarked)
    (hx : (s.port p).txn = some x) (hy : (t.port p).txn = some y) (d : Decision) :
    (s.enact p x d).alike (t.enact p y d) := by
  have hbus : (t.port p).bus = (s.port p).bus := unmarked_bus (h.port p)
  have hengine : t.engine = s.engine := (congrArg State.engine h.core :)
  obtain ⟨b, rfl⟩ : ∃ b, y = { x with wasHeld := b } := ⟨_, txn_of_unmarked hxy⟩
  cases d with
  | refuse why => exact refuse_alike h p hxy why
  | read =>
    refine alike_request (alike_setPort h p ?_) _ _
    simp only [HostPort.unmarked, hx, hy, hbus]
    rfl
  | hold => exact alike_setPort h p (by simp only [HostPort.unmarked, hbus])
  | finish r => exact alike_setPort h p (by simp only [HostPort.unmarked, hbus]; rfl)
  | write r => exact alike_request (alike_setPort h p (by simp only [HostPort.unmarked, hbus]; rfl)) _ _
  | queue r w =>
    refine alike_setEngine (alike_setPort h p (by simp only [HostPort.unmarked, hbus]; rfl)) ?_
    rw [hengine]
    rfl

/-- Parts that agree still agree after the same port's decision in both. -/
theorem takeDecision_alike {s t : State} (h : s.alike t) (p : Port) : (s.takeDecision p).alike (t.takeDecision p) := by
  have htxn : (t.port p).txn.map Txn.unmarked = (s.port p).txn.map Txn.unmarked := congrArg HostPort.txn (h.port p)
  unfold State.takeDecision
  cases hx : (s.port p).txn with
  | none =>
    rw [hx, Option.map_none, Option.map_eq_none_iff] at htxn
    rw [htxn]
    exact h
  | some x =>
    rw [hx, Option.map_some, Option.map_eq_some_iff] at htxn
    obtain ⟨y, hy, hxy⟩ := htxn
    rw [hy]
    dsimp only
    rw [judge_alike h.core hxy]
    exact enact_alike h p hxy hx hy _

/-- A decision sets its port's stage anew, whatever it was. -/
theorem takeDecision_deciding {s : State} {p : Port} (h : (s.port p).txn ≠ none) :
    (s.deciding p).takeDecision p = s.takeDecision p := by
  obtain ⟨x, hx⟩ := Option.ne_none_iff_exists'.mp h
  have hx' : ((s.deciding p).port p).txn = some x := by rw [← hx]; cases p <;> rfl
  unfold State.takeDecision
  rw [hx, hx']
  have hj : (s.deciding p).judge x = s.judge x := by cases p <;> rfl
  dsimp only
  rw [hj]
  cases s.judge x with
  | refuse why =>
    simp only [State.enact]
    rw [refuse_parts, refuse_parts]
    cases p <;> rfl
  | _ => cases p <;> rfl

/-- There are two ports. -/
theorem ports_of_ne {p q : Port} (h : q ≠ p) : (p = .a ∧ q = .b) ∨ (p = .b ∧ q = .a) := by
  cases p <;> cases q <;> simp_all

/-- A decision at one port and the other's stage are apart. -/
theorem takeDecision_deciding_other {s : State} {p q : Port} (h : q ≠ p) :
    (s.deciding q).takeDecision p = (s.takeDecision p).deciding q := by
  have hport : (s.deciding q).port p = s.port p := deciding_port h.symm
  unfold State.takeDecision
  rw [hport]
  cases (s.port p).txn with
  | none => rfl
  | some x =>
    have hj : (s.deciding q).judge x = s.judge x := by cases q <;> rfl
    dsimp only
    rw [hj]
    cases s.judge x with
    | refuse why =>
      simp only [State.enact]
      rw [refuse_parts, refuse_parts]
      obtain ⟨rfl, rfl⟩ | ⟨rfl, rfl⟩ := ports_of_ne h <;> rfl
    | _ => obtain ⟨rfl, rfl⟩ | ⟨rfl, rfl⟩ := ports_of_ne h <;> rfl

theorem takeDecision_setFrame (s : State) (k : Option Frame) (p : Port) :
    (s.setFrame k).takeDecision p = (s.takeDecision p).setFrame k := by
  have hport : (s.setFrame k).port p = s.port p := by cases p <;> rfl
  unfold State.takeDecision
  rw [hport]
  cases (s.port p).txn with
  | none => rfl
  | some x =>
    have hj : (s.setFrame k).judge x = s.judge x := rfl
    dsimp only
    rw [hj]
    cases s.judge x with
    | refuse why =>
      simp only [State.enact]
      rw [refuse_parts, refuse_parts]
      cases p <;> rfl
    | _ => cases p <;> rfl

end Sys2Proof.Machine
end

section
/-! PROOFS. O8, the decisions held writes retake: taken at the event they are the decisions of ports in DECIDING right
after it, in one order or the other (R70, log 8, log 31). -/
namespace Sys2Proof.Machine

open Sys2Proof

/-! ## Held writes newly presented -/

/-- A port's record with a held write in DECIDING. -/
def HostPort.reopened (x : HostPort) : HostPort := if x.stage = .held then { x with stage := .deciding } else x

/-- The part with port p's write, if held, in DECIDING. -/
def State.reopenAt (s : State) (p : Port) : State := s.setPort p (s.port p).reopened

/-- The part with every held write in DECIDING. -/
def State.reopened (s : State) : State := (s.reopenAt .a).reopenAt .b

/-- Port p takes its decision, if it stands in DECIDING (R63). -/
def State.decideAt (s : State) (p : Port) : State := if (s.port p).stage = .deciding then s.takeDecision p else s

theorem setPort_self (s : State) (p : Port) : s.setPort p (s.port p) = s := by cases p <;> rfl

theorem reopened_unmarked (x : HostPort) : x.reopened.unmarked = x.unmarked.reopened := by
  unfold HostPort.reopened
  by_cases h : x.stage = .held
  · rw [if_pos h, if_pos (by exact h)]
    rfl
  · rw [if_neg h, if_neg (by exact h)]

theorem reopened_unmarked_congr {x y : HostPort} (h : y.unmarked = x.unmarked) :
    y.reopened.unmarked = x.reopened.unmarked := by
  rw [reopened_unmarked, reopened_unmarked, h]

theorem reopened_stage (x : HostPort) : x.reopened.stage ≠ .held := by
  unfold HostPort.reopened
  split
  · simp
  · assumption

theorem reopenAt_of_held {s : State} {p : Port} (h : (s.port p).stage = .held) : s.reopenAt p = s.deciding p := by
  rw [State.reopenAt, HostPort.reopened, if_pos h, State.deciding]

theorem reopenAt_of_notHeld {s : State} {p : Port} (h : (s.port p).stage ≠ .held) : s.reopenAt p = s := by
  rw [State.reopenAt, HostPort.reopened, if_neg h, setPort_self]

theorem reopenAt_port {s : State} {p q : Port} (h : q ≠ p) : (s.reopenAt p).port q = s.port q :=
  (port_setPort s p q _).trans (if_neg (Ne.symm h))

theorem reopened_eq (s : State) {p q : Port} (h : q ≠ p) : (s.reopenAt p).reopenAt q = s.reopened := by
  obtain ⟨rfl, rfl⟩ | ⟨rfl, rfl⟩ := ports_of_ne h <;> rfl

theorem alike_reopenAt {s t : State} (h : s.alike t) (p : Port) : (s.reopenAt p).alike (t.reopenAt p) :=
  alike_setPort h p (reopened_unmarked_congr (h.port p))

theorem alike_decideAt {s t : State} (h : s.alike t) (p : Port) : (s.decideAt p).alike (t.decideAt p) := by
  unfold State.decideAt
  rw [stage_of_alike h p]
  split
  · exact takeDecision_alike h p
  · exact h

theorem decideAt_port {s : State} {p q : Port} (h : q ≠ p) : (s.decideAt p).port q = s.port q := by
  unfold State.decideAt
  split
  · exact takeDecision_port h
  · rfl

/-- A decision at one port and the other's hold are apart. -/
theorem decideAt_reopenAt {s : State} {p q : Port} (h : q ≠ p) :
    (s.reopenAt q).decideAt p = (s.decideAt p).reopenAt q := by
  by_cases hq : (s.port q).stage = .held
  · rw [reopenAt_of_held hq, reopenAt_of_held (by rwa [decideAt_port h])]
    unfold State.decideAt
    rw [deciding_port h.symm]
    split
    · exact takeDecision_deciding_other h
    · rfl
  · rw [reopenAt_of_notHeld hq, reopenAt_of_notHeld (by rwa [decideAt_port h])]

/-! ## What an event that ends holds does at the ports (R70) -/

/-- A port with nothing yet to decide, whose held write stands in its record. -/
def State.mayHold (s : State) (p : Port) : Prop :=
  (s.port p).stage ≠ .deciding ∧ ((s.port p).stage = .held → (s.port p).txn ≠ none)

theorem mayHold_congr {s t : State} {p : Port} (h : s.mayHold p) (hport : t.port p = s.port p) : t.mayHold p := by
  unfold State.mayHold
  rwa [hport]

/-- One port's held write is decided as if newly presented, at once or, where it may wait, not yet. -/
theorem retakeOneAtFence_alike {b : Bool} {s : State} {p : Port} (h : s.mayHold p) :
    ((s.reopenAt p).decideAt p).alike (State.retakeOneAtFence b s p)
      ∨ (b = true ∧ (s.reopenAt p).alike (State.retakeOneAtFence b s p)) := by
  obtain ⟨hst, e⟩ | ⟨hst, hcases⟩ := retakeOneAtFence_cases b s p
  · left
    rw [e, reopenAt_of_notHeld hst, State.decideAt, if_neg h.1]
    exact alike_refl s
  · rw [reopenAt_of_held hst]
    have hdecide : (s.deciding p).decideAt p = s.takeDecision p := by
      rw [State.decideAt, if_pos (by simp [State.deciding]), takeDecision_deciding (h.2 hst)]
    rw [hdecide]
    obtain e | ⟨hb, e | e⟩ := hcases
    · exact .inl (e ▸ alike_refl _)
    · exact .inl (e ▸ takeDecision_alike (alike_asked s) p)
    · refine .inr ⟨hb, e ▸ ?_⟩
      exact ⟨by cases p <;> rfl, fun q => by cases p <;> rfl, fun r => by cases p <;> rfl⟩

theorem retakeOneAtFence_port {b : Bool} {s : State} {p q : Port} (h : q ≠ p) :
    (State.retakeOneAtFence b s p).port q = s.port q := by
  obtain ⟨-, e⟩ | ⟨-, e | ⟨-, e | e⟩⟩ := retakeOneAtFence_cases b s p <;> rw [e]
  · exact takeDecision_port h
  · exact (takeDecision_port h).trans rfl
  · exact (deciding_port h).trans rfl

/-- From z on, ports p and q have decided, in one order or the other, up to grants, free values and marks; or, where they
may wait, not both have (log 8, log 31). -/
def State.decides (z : State) (wait : Prop) (p q : Port) (t : State) : Prop :=
  ((z.decideAt p).decideAt q).alike t ∨ ((z.decideAt q).decideAt p).alike t
    ∨ (wait ∧ (z.alike t ∨ (z.decideAt p).alike t ∨ (z.decideAt q).alike t))

theorem decides_swap {z t : State} {wait : Prop} {p q : Port} (h : z.decides wait p q t) : z.decides wait q p t := by
  obtain h | h | ⟨hw, h | h | h⟩ := h
  · exact .inr (.inl h)
  · exact .inl h
  · exact .inr (.inr ⟨hw, .inl h⟩)
  · exact .inr (.inr ⟨hw, .inr (.inr h)⟩)
  · exact .inr (.inr ⟨hw, .inr (.inl h)⟩)

theorem decides_congr {z y t u : State} {wait wait' : Prop} {p q : Port} (hz : y.alike z) (ht : t.alike u)
    (hw : wait → wait') (h : z.decides wait p q t) : y.decides wait' p q u := by
  have via {a b : State} (hab : a.alike b) (hb : b.alike t) : a.alike u := alike_trans (alike_trans hab hb) ht
  have one (r : Port) := alike_decideAt hz r
  obtain h | h | ⟨h0, h | h | h⟩ := h
  · exact .inl (via (alike_decideAt (one p) q) h)
  · exact .inr (.inl (via (alike_decideAt (one q) p) h))
  · exact .inr (.inr ⟨hw h0, .inl (via hz h)⟩)
  · exact .inr (.inr ⟨hw h0, .inr (.inl (via (one p) h))⟩)
  · exact .inr (.inr ⟨hw h0, .inr (.inr (via (one q) h))⟩)

/-- Two ports' held writes, one after the other. -/
theorem retakeTwoAtFence_decides {b : Bool} {s : State} {p q : Port} (hpq : q ≠ p) (hp : s.mayHold p)
    (hq : s.mayHold q) :
    s.reopened.decides (b = true) p q (State.retakeOneAtFence b (State.retakeOneAtFence b s p) q) := by
  have hq' : (State.retakeOneAtFence b s p).mayHold q := mayHold_congr hq (retakeOneAtFence_port hpq)
  have both : ((s.reopenAt p).decideAt p).reopenAt q = s.reopened.decideAt p := by
    rw [← decideAt_reopenAt hpq, reopened_eq s hpq]
  have second (u : State) (hu : u.alike (State.retakeOneAtFence b s p)) :=
    (retakeOneAtFence_alike (b := b) hq').imp (alike_trans (alike_decideAt (alike_reopenAt hu q) q))
      (And.imp_right (alike_trans (alike_reopenAt hu q)))
  obtain h | ⟨hb, h⟩ := retakeOneAtFence_alike (b := b) hp
  · have h2 := second _ h
    rw [both] at h2
    obtain h2 | ⟨hb, h2⟩ := h2
    · exact .inl h2
    · exact .inr (.inr ⟨hb, .inr (.inl h2)⟩)
  · have h2 := second _ h
    rw [reopened_eq s hpq] at h2
    obtain h2 | ⟨-, h2⟩ := h2
    · exact .inr (.inr ⟨hb, .inr (.inr h2)⟩)
    · exact .inr (.inr ⟨hb, .inl h2⟩)

/-- The part as the held writes find it at their decisions. -/
theorem retakeAtFence_one {b : Bool} {s : State} {p q : Port} (hpq : q ≠ p) (hp : s.mayHold p)
    (hq : (s.port q).stage ≠ .held) :
    (s.reopened.decideAt p).alike (s.retakeAtFence b) ∨ (b = true ∧ s.reopened.alike (s.retakeAtFence b)) := by
  have hnone : ¬ (s.portA.stage = .held ∧ s.portB.stage = .held) := by
    obtain ⟨rfl, rfl⟩ | ⟨rfl, rfl⟩ := ports_of_ne hpq
    · exact fun h => hq h.2
    · exact fun h => hq h.1
  have idle (u : State) (hu : (u.port q).stage ≠ .held) : State.retakeOneAtFence b u q = u := by
    obtain ⟨-, e⟩ | ⟨e, -⟩ := retakeOneAtFence_cases b u q
    · exact e
    · exact absurd e hu
  have he : s.retakeAtFence b = State.retakeOneAtFence b s p := by
    unfold State.retakeAtFence State.atPorts
    rw [if_neg hnone]
    obtain ⟨rfl, rfl⟩ | ⟨rfl, rfl⟩ := ports_of_ne hpq
    · exact idle _ (by rwa [retakeOneAtFence_port hpq])
    · rw [idle s hq]
  rw [he, ← reopened_eq s hpq, reopenAt_of_notHeld (by rwa [reopenAt_port hpq])]
  exact retakeOneAtFence_alike hp

/-- With two of them, in one order or the other (log 8). -/
theorem retakeAtFence_two {b : Bool} {s : State} {p q : Port} (hpq : q ≠ p) (hp : s.mayHold p) (hq : s.mayHold q) :
    s.reopened.decides (b = true) p q (s.retakeAtFence b) := by
  have hboth : s.mayHold .a ∧ s.mayHold .b := by
    obtain ⟨rfl, rfl⟩ | ⟨rfl, rfl⟩ := ports_of_ne hpq
    · exact ⟨hp, hq⟩
    · exact ⟨hq, hp⟩
  obtain ⟨ha, hb⟩ := hboth
  have first : s.reopened.decides (b = true) .a .b (s.retakeAtFence b) := by
    have hasked : s.reopened.alike s.asked.reopened := alike_asked s.reopened
    unfold State.retakeAtFence State.atPorts
    split
    · split
      · exact decides_congr hasked (alike_refl _) id (retakeTwoAtFence_decides (s := s.asked) nofun ha hb)
      · exact decides_congr hasked (alike_refl _) id (decides_swap (retakeTwoAtFence_decides (s := s.asked) nofun hb ha))
    · exact retakeTwoAtFence_decides nofun ha hb
  obtain ⟨rfl, rfl⟩ | ⟨rfl, rfl⟩ := ports_of_ne hpq
  · exact first
  · exact decides_swap first

end Sys2Proof.Machine
end

section
/-! PROOFS. O8, the Journal Controller's work and the ports: the work neither reads nor changes them, but where the
held writes retake their decisions at the end of a COMMIT, an APPLY or a FORMAT (R70, R98). -/
namespace Sys2Proof.Machine

open Sys2Proof

/-! ## The part at other ports -/

/-- The part with the ports' records `a` and `b`. -/
def State.ported (s : State) (a b : HostPort) : State := { s with portA := a, portB := b }

/-- s' is s with every held write newly presented in DECIDING, up to its mark (R61, R70). -/
structure State.reopens (s s' : State) : Prop where
  eq : s' = s.ported s'.portA s'.portB
  port : ∀ p, (s'.port p).unmarked = (s.port p).reopened.unmarked

theorem reopened_port (s : State) (p : Port) : s.reopened.port p = (s.port p).reopened := by cases p <;> rfl

theorem reopens_stage {s s' : State} (h : s.reopens s') (p : Port) : (s'.port p).stage = (s.port p).reopened.stage :=
  unmarked_stage (h.port p)

theorem reopens_alike {s s' : State} (h : s.reopens s') : s.reopened.alike s' := by
  refine ⟨?_, fun p => by rw [h.port, reopened_port], fun r => ?_⟩
  · rw [h.eq]
    rfl
  · rw [h.eq]
    rfl

theorem reopens_noneHeld {s s' : State} (h : s.reopens s') : s'.noneHeld :=
  ⟨fun e => reopened_stage s.portA ((reopens_stage h .a).symm.trans e),
    fun e => reopened_stage s.portB ((reopens_stage h .b).symm.trans e)⟩

/-- The rest of the part may change beside the ports. -/
theorem reopens_ported {s s' : State} (h : s.reopens s') (z : State) :
    (z.ported s.portA s.portB).reopens (z.ported s'.portA s'.portB) :=
  ⟨rfl, fun p => by cases p; exacts [h.port .a, h.port .b]⟩

theorem reopens_setPort {s s' : State} (h : s.reopens s') (p : Port) {x y : HostPort}
    (hxy : y.unmarked = x.reopened.unmarked) : (s.setPort p x).reopens (s'.setPort p y) := by
  refine ⟨?_, fun q => ?_⟩
  · rw [h.eq]
    cases p <;> rfl
  · rw [port_setPort, port_setPort]
    split
    · exact hxy
    · exact h.port q

/-- A write that is held, or has a decision to retake, newly presented (R70). -/
theorem redecides_port (s : State) (p q : Port) :
    (s.redecides p).port q = if p = q then ({ s.port p with stage := .deciding } : HostPort).unmarked else s.port q := by
  cases p <;> cases q <;> rfl

theorem reopened_of_waiting {x : HostPort} (h : x.stage = .held ∨ x.stage = .deciding) :
    x.reopened = { x with stage := .deciding } := by
  unfold HostPort.reopened
  split
  · rfl
  · next hne =>
    have := h.resolve_left hne
    cases x
    cases this
    rfl

theorem redecides_reopens {s : State} {p q : Port} (hpq : q ≠ p)
    (hp : (s.port p).stage = .held ∨ (s.port p).stage = .deciding) (hq : (s.port q).stage ≠ .held) : s.reopens (s.redecides p) := by
  refine ⟨by cases p <;> rfl, fun r => ?_⟩
  rw [redecides_port]
  split
  · next h => rw [← h, reopened_of_waiting hp, unmarked_idem]
  · next h =>
    have hr : r = q := by cases p <;> cases q <;> cases r <;> simp_all
    rw [hr, HostPort.reopened, if_neg hq]

theorem redecides_two_reopens {s : State} {p q : Port} (hpq : q ≠ p)
    (hp : (s.port p).stage = .held ∨ (s.port p).stage = .deciding)
    (hq : (s.port q).stage = .held ∨ (s.port q).stage = .deciding) : s.reopens ((s.redecides p).redecides q) := by
  refine ⟨by cases p <;> cases q <;> rfl, fun r => ?_⟩
  rw [redecides_port, redecides_port, redecides_port, if_neg hpq.symm]
  split
  · next h => rw [← h, reopened_of_waiting hq, unmarked_idem]
  · next h =>
    have hr : p = r := by cases p <;> cases q <;> cases r <;> simp_all
    rw [if_pos hr, ← hr, reopened_of_waiting hp, unmarked_idem]

/-! ## Work beside the ports -/

/-- From s to z no cause that holds a write ends: the fence stays, and so does a COMMIT or an APPLY (R69, R70). -/
def State.keepsHolds (s z : State) : Prop :=
  z.fence = s.fence ∧ (s.jc.op = .commit ∨ s.jc.op = .apply → z.jc.op = s.jc.op)

/-- What the work `G` of the Journal Controller does to s whatever the ports' records: it leaves them, ending no cause
that holds a write; or the held writes retake their decisions in the part it leaves (R70). -/
inductive State.worksBy (s : State) (G : State → State) : Prop
  | beside (z : State) (h : ∀ a b, G (s.ported a b) = z.ported a b) (hk : s.keepsHolds z)
  | retaking (z : State) (h : ∀ a b, G (s.ported a b) = (z.ported a b).retake)

theorem startAdvance_ported (s : State) (a b : HostPort) :
    s.startAdvance.ported a b = (s.ported a b).startAdvance := by
  show State.ported (if s.jc.epoch = lastEpoch then _ else _) a b = if s.jc.epoch = lastEpoch then _ else _
  split <;> rfl

theorem startAdvance_keepsHolds (s : State) : s.keepsHolds s.startAdvance := ⟨by simp, fun _ => by simp⟩

theorem endRollback_ported (s : State) (rb : Rollback) (a b : HostPort) :
    (s.endRollback rb).ported a b = (s.ported a b).endRollback rb := by
  show State.ported (if rb.lines = [] ∧ rb.further = 0 then _ else if s.jc.op = .recovery then _ else _) a b
    = if rb.lines = [] ∧ rb.further = 0 then _ else if s.jc.op = .recovery then _ else _
  split
  · exact startAdvance_ported s a b
  · split <;> rfl

theorem startRollback_ported (s : State) (a b : HostPort) :
    s.startRollback.ported a b = (s.ported a b).startRollback := by
  show State.ported (if 0 ≤ (s.jc.fill : Int) - 1 then _ else _) a b = if 0 ≤ (s.jc.fill : Int) - 1 then _ else _
  split
  · rfl
  · exact endRollback_ported _ _ a b

theorem endScan_ported (s : State) (reason : StopReason) (cls : Option SlotClass) (k n line : Nat) (a b : HostPort) :
    (s.endScan reason cls k n line).ported a b = (s.ported a b).endScan reason cls k n line := by
  show State.ported (if s.jc.op = .recovery then (if reason.isDamage then _ else if k = 0 then _ else _)
      else if reason.isDamage then _ else _) a b
    = if s.jc.op = .recovery then (if reason.isDamage then _ else if k = 0 then _ else _)
      else if reason.isDamage then _ else _
  repeat' split
  · rfl
  · rfl
  · exact startRollback_ported _ a b
  · rfl
  · exact startRollback_ported _ a b

theorem startScan_ported (s : State) (x : Step) (a b : HostPort) :
    (s.startScan x).ported a b = (s.ported a b).startScan x := by
  show State.ported (if 0 < s.activeGeom.count then _ else _) a b = if 0 < s.activeGeom.count then _ else _
  split
  · rfl
  · exact endScan_ported _ _ _ _ _ _ a b

theorem drainDone_worksBy (s : State) : s.worksBy State.drainDone := by
  cases hop : s.jc.op with
  | commit =>
    refine .beside s.startAdvance (fun a b => ?_) (startAdvance_keepsHolds s)
    rw [startAdvance_ported]
    unfold State.drainDone
    rw [show (s.ported a b).jc.op = .commit from hop]
  | abort =>
    refine .beside s.startRollback (fun a b => ?_) ⟨by simp, by simp [hop]⟩
    rw [startRollback_ported]
    unfold State.drainDone
    rw [show (s.ported a b).jc.op = .abort from hop]
  | apply =>
    by_cases hfill : s.jc.fill = 0
    · refine .beside s.startApplyAnchor (fun a b => ?_) ⟨by simp, fun _ => rfl⟩
      unfold State.drainDone
      rw [show (s.ported a b).jc.op = .apply from hop]
      exact if_pos hfill
    · refine .retaking (s.endOperation .active s.jc.epoch s.jc.fill (s.opRecord .notEmpty s.jc.epoch 0 [] 0))
        fun a b => ?_
      unfold State.drainDone
      rw [show (s.ported a b).jc.op = .apply from hop]
      exact if_neg hfill
  | format =>
    refine .beside s.startScrub (fun a b => ?_) ⟨rfl, fun _ => rfl⟩
    unfold State.drainDone
    rw [show (s.ported a b).jc.op = .format from hop]
    rfl
  | none =>
    refine .beside s (fun a b => ?_) ⟨rfl, fun _ => rfl⟩
    unfold State.drainDone
    rw [show (s.ported a b).jc.op = .none from hop]
  | recovery =>
    refine .beside s (fun a b => ?_) ⟨rfl, fun _ => rfl⟩
    unfold State.drainDone
    rw [show (s.ported a b).jc.op = .recovery from hop]

/-- Items of the Journal Controller change before the work. -/
theorem worksBy_setJc {s : State} {G H : State → State} {j : Journal} (h : (s.setJc j).worksBy G)
    (hG : ∀ a b, H (s.ported a b) = G ((s.setJc j).ported a b)) (hop : j.op = s.jc.op) : s.worksBy H := by
  cases h with
  | beside z hz hk =>
    refine .beside z (fun a b => (hG a b).trans (hz a b)) ⟨hk.1, fun ho => ?_⟩
    have := hk.2 (by simpa [hop] using ho)
    simpa [hop] using this
  | retaking z hz => exact .retaking z fun a b => (hG a b).trans (hz a b)

theorem startDrain_worksBy (s : State) (ports : List Port) : s.worksBy (State.startDrain · ports) := by
  by_cases h : ports = []
  · exact worksBy_setJc (drainDone_worksBy (s.setJc { s.jc with step := some .draining, drain := ports }))
      (fun a b => if_pos h) rfl
  · exact .beside (s.setJc { s.jc with step := some .draining, drain := ports }) (fun a b => if_neg h)
      ⟨rfl, fun _ => rfl⟩

theorem portResponded_worksBy (s : State) (p : Port) : s.worksBy (State.portResponded · p) := by
  by_cases hp : p ∈ s.jc.drain
  · by_cases hrest : s.jc.drain.filter (fun q => q ≠ p) = []
    · refine worksBy_setJc (drainDone_worksBy (s.setJc { s.jc with drain := s.jc.drain.filter (fun q => q ≠ p) }))
        (fun a b => ?_) rfl
      exact (if_pos hp).trans (if_pos hrest)
    · exact .beside (s.setJc { s.jc with drain := s.jc.drain.filter (fun q => q ≠ p) })
        (fun a b => (if_pos hp).trans (if_neg hrest)) ⟨rfl, fun _ => rfl⟩
  · exact .beside s (fun a b => if_neg hp) ⟨rfl, fun _ => rfl⟩

/-- The same work under another name. -/
theorem worksBy_congr {s : State} {G H : State → State} (h : s.worksBy G)
    (hG : ∀ a b, H (s.ported a b) = G (s.ported a b)) : s.worksBy H := by
  cases h with
  | beside z hz hk => exact .beside z (fun a b => (hG a b).trans (hz a b)) hk
  | retaking z hz => exact .retaking z fun a b => (hG a b).trans (hz a b)

theorem completeAdvance_worksBy (s : State) (e : Word) : s.worksBy (State.completeAdvance · e) := by
  cases hop : s.jc.op with
  | commit =>
    refine .retaking ((s.setFilter .empty).endOperation .active e 0 (s.opRecord .done e 0 [] 0)) fun a b => ?_
    unfold State.completeAdvance
    rw [show (s.ported a b).jc.op = .commit from hop]
    rfl
  | abort =>
    refine .beside (s.completeAbort e) (fun a b => ?_) ⟨rfl, by simp [hop]⟩
    unfold State.completeAdvance
    rw [show (s.ported a b).jc.op = .abort from hop]
    rfl
  | recovery =>
    cases hroll : s.jc.rollback with
    | none =>
      refine .beside ((s.setFilter .empty).completeRecovery .scrubResumed .active e 0 s.workingReport) (fun a b => ?_)
        ⟨rfl, by simp [hop]⟩
      unfold State.completeAdvance
      rw [show (s.ported a b).jc.op = .recovery from hop]
      dsimp only
      rw [show (s.ported a b).jc.rollback = none from hroll]
      rfl
    | some rb =>
      refine .beside ((s.setFilter .empty).completeRecovery .rolledBack .active e 0
        { s.workingReport with applied := rb.applied, lines := rb.lines, further := rb.further }) (fun a b => ?_)
        ⟨rfl, by simp [hop]⟩
      unfold State.completeAdvance
      rw [show (s.ported a b).jc.op = .recovery from hop]
      dsimp only
      rw [show (s.ported a b).jc.rollback = some rb from hroll]
      rfl
  | none =>
    refine .beside s (fun a b => ?_) ⟨rfl, fun _ => rfl⟩
    unfold State.completeAdvance
    rw [show (s.ported a b).jc.op = .none from hop]
  | format =>
    refine .beside s (fun a b => ?_) ⟨rfl, fun _ => rfl⟩
    unfold State.completeAdvance
    rw [show (s.ported a b).jc.op = .format from hop]
  | apply =>
    refine .beside s (fun a b => ?_) ⟨rfl, fun _ => rfl⟩
    unfold State.completeAdvance
    rw [show (s.ported a b).jc.op = .apply from hop]

theorem adoptFence_ported (s : State) (c : Setup) (a b : HostPort) :
    (s.adoptFence c).ported a b = (s.ported a b).adoptFence c := by
  show State.ported (if s.fence.state = .latched ∧ c.mode = .level then _ else _) a b
    = if s.fence.state = .latched ∧ c.mode = .level then _ else _
  split <;> rfl

/-- The part as an APPLY leaves it before the held writes retake their decisions (R142). -/
def State.applyEnds (s : State) : State :=
  let c := s.store.staged
  let s' := ((s.setStore { s.store with active := c }).setDecoder
    { s.decoder with windows := c.windows, default := c.default }).adoptFence c
  s'.endOperation .active s.jc.epoch s.jc.fill (s.opRecord .done s.jc.epoch 0 [] 0)

/-- The part as a FORMAT leaves it before the held writes retake their decisions (R145). -/
def State.formatEnds (s : State) : State :=
  let c := s.store.staged
  let g := s.store.stagedGeom
  let s' := (((s.setStore { s.store with geom := some g, active := c }).setDecoder
    (Decoder.load s.memSize (some g) c)).setFilter .empty).adoptFence c
  (s'.setJc { s'.jc with geom := some g }).endOperation .active 1 0 (s.opRecord .done 1 0 [] 0)

theorem applyEnds_ported (s : State) (a b : HostPort) : s.applyEnds.ported a b = (s.ported a b).applyEnds :=
  congrArg (State.endOperation · .active s.jc.epoch s.jc.fill (s.opRecord .done s.jc.epoch 0 [] 0))
    (adoptFence_ported _ _ a b)

theorem formatEnds_ported (s : State) (a b : HostPort) : s.formatEnds.ported a b = (s.ported a b).formatEnds :=
  congrArg (fun u => (u.setJc { u.jc with geom := some s.store.stagedGeom }).endOperation .active 1 0
    (s.opRecord .done 1 0 [] 0)) (adoptFence_ported _ _ a b)

theorem anchorDone_worksBy (s : State) : s.worksBy State.anchorDone := by
  have step (x : Option Step) (hx : s.jc.step = x) (a b : HostPort) : (s.ported a b).jc.step = x := hx
  have idles (h : ∀ a b, (s.ported a b).anchorDone = s.ported a b) : s.worksBy State.anchorDone :=
    .beside s h ⟨rfl, fun _ => rfl⟩
  cases hstep : s.jc.step with
  | none =>
    refine idles fun a b => ?_
    unfold State.anchorDone
    rw [step _ hstep]
  | some x =>
    cases x with
    | advancing =>
      by_cases hlast : s.jc.epoch = lastEpoch
      · refine .beside s.startScrub (fun a b => ?_) ⟨rfl, fun _ => rfl⟩
        unfold State.anchorDone
        rw [step _ hstep]
        exact if_pos hlast
      · have hwork (a b : HostPort) : (s.ported a b).anchorDone = (s.ported a b).completeAdvance (s.jc.epoch + 1) := by
          unfold State.anchorDone
          rw [step _ hstep]
          exact if_neg hlast
        exact worksBy_congr (completeAdvance_worksBy s _) hwork
    | wrapAnchor =>
      have hwork (a b : HostPort) : (s.ported a b).anchorDone = (s.ported a b).completeAdvance 1 := by
        unfold State.anchorDone
        rw [step _ hstep]
      exact worksBy_congr (completeAdvance_worksBy s 1) hwork
    | applyAnchor =>
      refine .retaking s.applyEnds fun a b => ?_
      rw [applyEnds_ported]
      unfold State.anchorDone
      rw [step _ hstep]
      rfl
    | firstAnchor =>
      refine .beside (s.startFormatAnchor .secondAnchor) (fun a b => ?_) ⟨rfl, fun _ => rfl⟩
      unfold State.anchorDone
      rw [step _ hstep]
      rfl
    | secondAnchor =>
      refine .retaking s.formatEnds fun a b => ?_
      rw [formatEnds_ported]
      unfold State.anchorDone
      rw [step _ hstep]
      rfl
    | _ =>
      refine idles fun a b => ?_
      unfold State.anchorDone
      rw [step _ hstep]

end Sys2Proof.Machine
end

section
/-! PROOFS. O8, the events that end a hold: what they leave where the writes are held, and where they are newly presented
(R70, R82, R101, R141, R142, R150, R151). -/
namespace Sys2Proof.Machine

open Sys2Proof

/-- From s and from the same part with its held writes newly presented, an event that ends holds leaves t and u: t is
what the held writes' decisions make of the part in which u has them still to take. -/
def State.returns (s t u : State) (wait : Prop) : Prop :=
  ∃ (x : State) (b : Bool), (x.retakeAtFence b).alike t ∧ x.reopened.alike u ∧ (b = true → wait) ∧ x.inReset = false
    ∧ ∀ p, x.port p = s.port p ∨ (x.port p).stage = .responding

/-- An event that keeps the fence, or leaves it up, and keeps a COMMIT or an APPLY ends no hold (R69, R70). -/
theorem not_endsHolding {s t : State} {c : Instr} (hfence : t.fence.state = s.fence.state ∨ t.fence.state ≠ .normal)
    (hop : s.jc.op = .commit ∨ s.jc.op = .apply → t.jc.op = s.jc.op) (hc : ∀ f, c ≠ .apply f) : ¬ s.endsHolding t c := by
  rintro (⟨hup, hnormal⟩ | ⟨ho, hnone⟩ | ⟨f, rfl, -⟩)
  · exact hfence.elim (fun e => hup (e ▸ hnormal)) (fun e => e hnormal)
  · rw [hop ho] at hnone
    simp [hnone] at ho
  · exact hc f rfl

/-- What the completion of an operation does is what the fence's return does where nothing may wait (R70). -/
theorem retake_eq (s : State) : s.retake = s.retakeAtFence false := by
  have hone : State.retakeOneAtFence false = State.retakeOne := by
    funext u p
    simp [State.retakeOneAtFence]
  rw [State.retake, State.retakeAtFence, hone]

/-- Work that ends a hold has the held writes retake their decisions in the part it leaves. -/
theorem worksBy_returns {s y y' : State} {c : Instr} {G : State → State} {arb arb' : Arbiter} {wait : Prop}
    (hw : y.worksBy G) (hends : s.endsHolding ((G y).settle arb) c) (hy : y.reopens y') (hfence : y.fence = s.fence)
    (hop : y.jc.op = s.jc.op) (hreset : y.inReset = false) (hpins : (G y).pins = y.pins)
    (hports : ∀ p, y.port p = s.port p ∨ (y.port p).stage = .responding) (hc : ∀ f, c ≠ .apply f) :
    s.returns ((G y).settle arb) ((G y').settle arb') wait := by
  cases hw with
  | beside z hz hk =>
    have e : G y = z.ported y.portA y.portB := hz y.portA y.portB
    refine absurd hends (not_endsHolding (.inl ?_) (fun ho => ?_) hc)
    · simp only [State.settle_untouched, e, ← hfence, ← hk.1]
      rfl
    · have := hk.2 (hop ▸ ho)
      simp only [State.settle_untouched, e]
      exact this.trans hop
  | retaking z hz =>
    have e : G y = (z.ported y.portA y.portB).retake := hz y.portA y.portB
    have hx : (z.ported y.portA y.portB).reopens (z.ported y'.portA y'.portB) := reopens_ported hy z
    have e' : G y' = z.ported y'.portA y'.portB := by
      rw [congrArg G hy.eq, hz, retake_noneHeld (reopens_noneHeld hx)]
    refine ⟨z.ported y.portA y.portB, false, ?_, ?_, nofun, ?_, fun p => ?_⟩
    · rw [e, retake_eq]
      exact alike_settle _ _
    · rw [e']
      exact alike_trans (reopens_alike hx) (alike_settle _ _)
    · rw [e] at hpins
      have : (z.ported y.portA y.portB).pins = y.pins := by simpa using hpins
      unfold State.inReset at hreset ⊢
      rwa [this]
    · have hp := hports p
      cases p <;> exact hp

/-! ## The host's completions -/

theorem reopens_of_ported {s s' : State} {G : State → State} (h : s.reopens s')
    (hG : ∀ a b, G (s.ported a b) = (G s).ported a b) : (G s).reopens (G s') := by
  have e : G s = (G s).ported s.portA s.portB := hG s.portA s.portB
  have e' : G s' = (G s).ported s'.portA s'.portB := (congrArg G h.eq).trans (hG _ _)
  rw [e, e']
  exact reopens_ported h (G s)

theorem reopens_txn {s s' : State} (h : s.reopens s') (p : Port) :
    (s'.port p).txn.map Txn.unmarked = (s.port p).txn.map Txn.unmarked := by
  have := congrArg HostPort.txn (h.port p)
  rw [reopened_unmarked] at this
  refine this.trans ?_
  unfold HostPort.reopened
  split <;> rfl

theorem reopens_bus {s s' : State} (h : s.reopens s') (p : Port) : (s'.port p).bus = (s.port p).bus := by
  have := unmarked_bus (h.port p)
  rw [this]
  unfold HostPort.reopened
  split <;> rfl

/-- A port's transaction, in both parts. -/
theorem reopens_txn_cases {s s' : State} (h : s.reopens s') (p : Port) :
    ((s.port p).txn = none ∧ (s'.port p).txn = none)
      ∨ ∃ x w, (s.port p).txn = some x ∧ (s'.port p).txn = some { x with wasHeld := w } := by
  have htxn := reopens_txn h p
  cases hx : (s.port p).txn with
  | none =>
    rw [hx, Option.map_none, Option.map_eq_none_iff] at htxn
    exact .inl ⟨rfl, htxn⟩
  | some x =>
    rw [hx, Option.map_some, Option.map_eq_some_iff] at htxn
    obtain ⟨y, hy, hxy⟩ := htxn
    exact .inr ⟨x, y.wasHeld, rfl, by rw [hy, ← txn_of_unmarked hxy]⟩

theorem refuse_reopens {s s' : State} (h : s.reopens s') (p : Port) (x : Txn) (w : Bool) (why : Reason) :
    (s.refuse p x why).reopens (s'.refuse p { x with wasHeld := w } why) := by
  have hattn : s'.attn = s.attn := by rw [h.eq]; rfl
  have hjc : s'.jc = s.jc := by rw [h.eq]; rfl
  rw [refuse_parts, refuse_parts, hattn, hjc]
  refine reopens_setPort (reopens_of_ported (G := (State.setAttn · _)) h fun a b => rfl) p ?_
  simp only [HostPort.unmarked, reopens_bus h]
  rfl

theorem hostReadDone_reopens {s s' : State} (h : s.reopens s') (p : Port) (op : MemOp) (merr : Bool) :
    (s.hostReadDone p op merr).reopens (s'.hostReadDone p op merr) := by
  unfold State.hostReadDone
  obtain ⟨e, e'⟩ | ⟨x, w, e, e'⟩ := reopens_txn_cases h p <;> rw [e, e'] <;> dsimp only
  · exact h
  · split
    · exact refuse_reopens h p x w _
    · have hbytes : s'.bytesOf op = s.bytesOf op := by rw [h.eq]; rfl
      refine reopens_setPort h p ?_
      simp only [HostPort.unmarked, reopens_bus h, hbytes]
      rfl

theorem hostWriteDone_reopens {s s' : State} (h : s.reopens s') (p : Port) :
    (s.hostWriteDone p).reopens (s'.hostWriteDone p) := by
  unfold State.hostWriteDone
  obtain ⟨e, e'⟩ | ⟨x, w, e, e'⟩ := reopens_txn_cases h p <;> rw [e, e'] <;> dsimp only
  · exact h
  · have hengine : s'.engine = s.engine := by rw [h.eq]; rfl
    rw [hengine]
    refine reopens_of_ported (G := (State.setEngine · _)) (reopens_setPort h p ?_) fun a b => rfl
    simp only [HostPort.unmarked, reopens_bus h, e, e']
    rfl

/-- A command that cannot be taken ends no hold. -/
theorem not_endsHolding_self {s : State} {c : Instr} (hc : ∀ f, c ≠ .apply f) : ¬ s.endsHolding s c :=
  not_endsHolding (.inl rfl) (fun _ => rfl) hc

theorem reopens_inReset {s s' : State} (h : s.reopens s') : s'.inReset = s.inReset := by
  rw [h.eq]
  rfl

theorem reopens_inProgress {s s' : State} (h : s.reopens s') (r : Requester) (p : Purpose) :
    s'.inProgress r p = s.inProgress r p := by
  rw [h.eq]
  rfl

theorem hostReadDone_ports (s : State) (p q : Port) (op : MemOp) (merr : Bool) :
    (s.hostReadDone p op merr).port q = s.port q ∨ ((s.hostReadDone p op merr).port q).stage = .responding := by
  by_cases hq : q = p
  · subst hq
    unfold State.hostReadDone
    split
    · exact .inl rfl
    · split
      · exact .inr (refuse_stage _ _ _ _)
      · exact .inr (by simp)
  · exact .inl (hostReadDone_port hq op merr)

theorem hostWriteDone_ports (s : State) (p q : Port) :
    (s.hostWriteDone p).port q = s.port q ∨ ((s.hostWriteDone p).port q).stage = .responding := by
  by_cases hq : q = p
  · subst hq
    unfold State.hostWriteDone
    split
    · exact .inl rfl
    · exact .inr (by cases q <;> rfl)
  · exact .inl (hostWriteDone_port hq)

theorem hostReadComplete_returns {s s' t u : State} {p : Port} {merr : Bool} {wait : Prop} (h : s.reopens s')
    (ht : exec (.hostReadComplete p merr) s = .next t) (hu : exec (.hostReadComplete p merr) s' = .next u)
    (hends : s.endsHolding t (.hostReadComplete p merr)) : s.returns t u wait := by
  simp only [exec, execHostReadComplete, reopens_inProgress h] at ht hu
  cases hin : s.inProgress (portRequester p) .hostRead with
  | none =>
    rw [hin] at ht
    cases ht
    exact absurd hends (not_endsHolding_self nofun)
  | some op =>
    rw [hin] at ht hu
    cases ht
    cases hu
    obtain ⟨hreset, -, -⟩ := inProgress_eq_some hin
    exact worksBy_returns (portResponded_worksBy (s.release.hostReadDone p op merr) p) hends
      (hostReadDone_reopens (reopens_of_ported (G := State.release) h fun a b => rfl) p op merr) (by simp) (by simp)
      (by simpa [State.inReset] using hreset) (by simp) (hostReadDone_ports s.release p · op merr) nofun

theorem hostWriteComplete_returns {s s' t u : State} {p : Port} {wait : Prop} (h : s.reopens s')
    (ht : exec (.hostWriteComplete p) s = .next t) (hu : exec (.hostWriteComplete p) s' = .next u)
    (hends : s.endsHolding t (.hostWriteComplete p)) : s.returns t u wait := by
  simp only [exec, execHostWriteComplete, reopens_inProgress h] at ht hu
  cases hin : s.inProgress (portRequester p) .hostWrite with
  | none =>
    rw [hin] at ht
    cases ht
    exact absurd hends (not_endsHolding_self nofun)
  | some op =>
    rw [hin] at ht hu
    cases ht
    cases hu
    obtain ⟨hreset, -, -⟩ := inProgress_eq_some hin
    exact worksBy_returns (portResponded_worksBy ((s.release.storeCells op).hostWriteDone p) p) hends
      (hostWriteDone_reopens (reopens_of_ported (G := fun u => u.release.storeCells op) h fun a b => rfl) p) (by simp)
      (by simp) (by simpa [State.inReset] using hreset) (by simp) (hostWriteDone_ports (s.release.storeCells op) p) nofun

/-! ## A refusal of the Capture Engine -/

theorem refuseEntry_returns {s y y' : State} {c : Instr} {e : Entry} {why : Reason} {arb arb' : Arbiter} {wait : Prop}
    (hy : y.reopens y') (hends : s.endsHolding ((y.refuseEntry e why).settle arb) c) (hfence : y.fence = s.fence)
    (hop : y.jc.op = s.jc.op) (hreset : y.inReset = false) (hports : ∀ p, y.port p = s.port p) (hc : ∀ f, c ≠ .apply f) :
    s.returns ((y.refuseEntry e why).settle arb) ((y'.refuseEntry e why).settle arb') wait := by
  have hengine : y'.engine = y.engine := by rw [hy.eq]; rfl
  have hidle : (y.setEngine { y.engine with current := none }).reopens
      (y'.setEngine { y'.engine with current := none }) := by
    rw [hengine]
    exact reopens_of_ported (G := (State.setEngine · _)) hy fun a b => rfl
  unfold State.refuseEntry at hends ⊢
  dsimp only at hends ⊢
  obtain ⟨hx, hx'⟩ | ⟨x, w, hx, hx'⟩ := reopens_txn_cases hidle e.port
  · rw [hx] at hends
    exact absurd hends (not_endsHolding (.inl (by simp [hfence])) (fun _ => by simp [hop]) hc)
  · rw [hx] at hends ⊢
    rw [hx']
    refine worksBy_returns (portResponded_worksBy _ e.port) hends (refuse_reopens hidle e.port x w why)
      (by simpa using hfence) (by simpa using hop) (by simpa [State.inReset] using hreset) (by simp) (fun p => ?_) hc
    by_cases hp : p = e.port
    · exact .inr (hp ▸ refuse_stage _ _ _ _)
    · exact .inl ((refuse_port hp _ _).trans (hports p))

theorem lineReadComplete_returns {s s' t u : State} {merr : Bool} {wait : Prop} (h : s.reopens s')
    (ht : exec (.lineReadComplete merr) s = .next t) (hu : exec (.lineReadComplete merr) s' = .next u)
    (hends : s.endsHolding t (.lineReadComplete merr)) : s.returns t u wait := by
  have hengine : s'.engine = s.engine := by rw [h.eq]; rfl
  simp only [exec, execLineReadComplete, reopens_inProgress h, hengine] at ht hu
  split at ht
  · next op e hin hcur =>
    rw [hin, hcur] at hu
    cases ht
    cases hu
    obtain ⟨hreset, -, -⟩ := inProgress_eq_some hin
    cases merr with
    | false =>
      exact absurd hends (not_endsHolding (.inl (by simp [State.occur]))
        (fun _ => by simp [State.occur, State.lineReadDone, State.setPhase]) nofun)
    | true =>
      exact refuseEntry_returns (reopens_of_ported (G := State.release) h fun a b => rfl) hends rfl rfl hreset
        (fun p => by cases p <;> rfl) nofun
  · cases ht
    exact absurd hends (not_endsHolding_self nofun)

theorem slotReservation_returns {s s' t u : State} {wait : Prop} (h : s.reopens s')
    (ht : exec .slotReservation s = .next t) (hu : exec .slotReservation s' = .next u)
    (hends : s.endsHolding t .slotReservation) : s.returns t u wait := by
  have hengine : s'.engine = s.engine := by rw [h.eq]; rfl
  simp only [exec, execSlotReservation, State.take, State.slotReserved] at ht hu
  rw [reopens_inReset h, hengine] at hu
  split at ht
  · next v hv =>
    split at hv
    · next e image hreset hcur =>
      cases hv
      rw [hreset, hcur] at hu
      cases ht
      cases hu
      unfold State.reserve at hends ⊢
      rw [show s'.jc.fill = s.jc.fill by rw [h.eq]; rfl, show s'.activeGeom = s.activeGeom by rw [h.eq]; rfl]
      split at hends
      · exact absurd hends (not_endsHolding (.inl (by simp)) (fun _ => by simp [State.setPhase]) nofun)
      · next hfull =>
        rw [if_neg hfull, if_neg hfull]
        exact refuseEntry_returns h hends rfl rfl hreset (fun _ => rfl) nofun
    · cases hv
  · cases ht
    exact absurd hends (not_endsHolding_self nofun)

theorem anchorWriteComplete_returns {s s' t u : State} {wait : Prop} (h : s.reopens s')
    (ht : exec .anchorWriteComplete s = .next t) (hu : exec .anchorWriteComplete s' = .next u)
    (hends : s.endsHolding t .anchorWriteComplete) : s.returns t u wait := by
  have hanchors : s'.anchors = s.anchors := by rw [h.eq]; rfl
  simp only [exec, execAnchorWriteComplete, reopens_inProgress h, hanchors] at ht hu
  split at ht
  · next op k seq hin hunit =>
    rw [hin, hunit] at hu
    cases ht
    cases hu
    obtain ⟨hreset, -, -⟩ := inProgress_eq_some hin
    exact worksBy_returns (anchorDone_worksBy _) hends
      (reopens_of_ported (G := fun u => (u.release.storeCells op).setAnchors
        { u.anchors with newest := some k, seq := seq, op := none }) h fun a b => rfl) rfl rfl hreset (by simp)
      (fun p => .inl (by cases p <;> rfl)) nofun
  · cases ht
    exact absurd hends (not_endsHolding_self nofun)

end Sys2Proof.Machine
end

section
/-! PROOFS. O8, the four operation commands: when their frames are answered ACCEPTED, and what the acceptance does with
the decisions to retake (R16, R17, R70). -/
namespace Sys2Proof.Machine

open Sys2Proof

/-- The four operation commands, each with its code and its block's answer (R16). -/
inductive OperationRow : Instr → Byte → FrameTail → (State → Reply × State) → Prop
  | commit (f : FrameTail) : OperationRow (.commit f) codeCommit f State.commitCommand
  | abort (f : FrameTail) : OperationRow (.abort f) codeAbort f State.abortCommand
  | format (f : FrameTail) : OperationRow (.format f) codeFormat f State.formatCommand
  | apply (f : FrameTail) : OperationRow (.apply f) codeApply f State.applyCommand

theorem operationRow_of_shuts {c : Instr} {code : Byte} {f : FrameTail}
    (hc : c = .commit f ∨ c = .abort f ∨ c = .format f ∨ c = .apply f) (hcode : frameOf c = some (code, f)) :
    ∃ body, OperationRow c code f body := by
  obtain rfl | rfl | rfl | rfl := hc <;> cases hcode
  · exact ⟨_, .commit f⟩
  · exact ⟨_, .abort f⟩
  · exact ⟨_, .format f⟩
  · exact ⟨_, .apply f⟩

/-- What an acceptance in s begins, before the decisions to retake (R17, R99, R104, R108, R110, R141, R144). -/
def State.acceptedWork (s : State) (c : Instr) (u : State) : State :=
  match c with
  | .commit _ =>
    if s.jc.state = .damaged then (u.accept .committing .commit).startAdvance
    else (u.accept .committing .commit).startDrain s.toDrain
  | .abort _ =>
    if s.jc.state = .damaged then (u.accept .aborting .abort).startScan .rescanning
    else (u.accept .aborting .abort).startDrain s.toDrain
  | .format _ => (u.accept .formatting .format).startDrain (if s.jc.state = .damaged then [] else s.toDrain)
  | .apply _ => (u.accept .applying .apply).startDrain s.toDrain
  | _ => u

/-- A frame that is taken is answered (R156). -/
theorem dispatch_receiving {code : Byte} {f : FrameTail} {l : Bool} {body : State → Reply × State} {s : State}
    (h : s.receiving = true) :
    dispatch code f l body s = .next (((dispatchResult code f l body s).2.setFrame
      (some (respondedFrame code f (dispatchResult code f l body s).1))).settle s.arb) := by
  simp only [dispatch, State.take, State.dispatched, h, if_true]

theorem dispatch_notReceiving {code : Byte} {f : FrameTail} {l : Bool} {body : State → Reply × State} {s : State}
    (h : ¬ s.receiving = true) : dispatch code f l body s = .next s := by
  simp only [dispatch, State.take, State.dispatched, h]
  rfl

/-- A frame that is not taken, or not answered ACCEPTED, does no work. -/
def State.declines (s : State) (code : Byte) (f : FrameTail) (t : State) : Prop :=
  t = s ∨ ∃ r : Reply, r.result ≠ .accepted ∧ t = (s.setFrame (answered code f r.result r.data r.soft)).settle s.arb

section
variable {c : Instr} {code : Byte} {f : FrameTail} {body : State → Reply × State} (row : OperationRow c code f body)
include row

theorem exec_operationRow (s : State) : exec c s = dispatch code f (lengthIs f 0) body s := by cases row <;> rfl

theorem frameOf_operationRow : frameOf c = some (code, f) := by cases row <;> rfl

/-- A refusal leaves the part as it is, and an acceptance does its work (R16, R17). -/
theorem operationRow_cases (s : State) :
    body s = (.bare .accepted, (s.acceptedWork c s).finishRetake)
      ∨ ∃ r, r.result ≠ .accepted ∧ body s = (r, s) := by
  have check {l : List JournalState} {r : Reply} (h : s.operationCheck l = some r) : r.result ≠ .accepted := by
    unfold State.operationCheck at h
    split at h
    · cases h
      simp [State.busyReply]
    · split at h
      · cases h
        simp
      · split at h
        · cases h
          simp [State.wrongState]
        · cases h
  cases row with
  | commit f =>
    unfold State.commitCommand
    split
    · next r h => exact .inr ⟨r, check h, rfl⟩
    · exact .inl rfl
  | abort f =>
    unfold State.abortCommand
    split
    · next r h => exact .inr ⟨r, check h, rfl⟩
    · exact .inl rfl
  | format f =>
    unfold State.formatCommand
    split
    · next r h => exact .inr ⟨r, check h, rfl⟩
    · split
      · exact .inr ⟨_, by simp [Reply.bare], rfl⟩
      · split
        · exact .inr ⟨_, by simp, rfl⟩
        · exact .inl rfl
  | apply f =>
    unfold State.applyCommand
    split
    · next r h => exact .inr ⟨r, check h, rfl⟩
    · split
      · exact .inr ⟨_, by simp [Reply.bare], rfl⟩
      · split
        · exact .inr ⟨_, by simp [Reply.bare], rfl⟩
        · exact .inl rfl

/-- The answer goes by the journal, the fence and the staging image (R16). -/
theorem operationRow_reply {s t : State} (hjc : t.jc = s.jc) (hfence : t.fence = s.fence) (hstore : t.store = s.store) :
    (body t).1 = (body s).1 := by
  have check (l : List JournalState) : t.operationCheck l = s.operationCheck l := by
    simp only [State.operationCheck, State.busyReply, State.wrongState, hjc, hfence]
  cases row with
  | commit f =>
    simp only [State.commitCommand, check]
    split <;> rfl
  | abort f =>
    simp only [State.abortCommand, check]
    split <;> rfl
  | format f =>
    simp only [State.formatCommand, check, hstore, hjc]
    repeat' split
    all_goals rfl
  | apply f =>
    simp only [State.applyCommand, check, hstore, hjc]
    repeat' split
    all_goals rfl

theorem accepts_congr {s t : State} (hjc : t.jc = s.jc) (hfence : t.fence = s.fence) (hstore : t.store = s.store) :
    t.accepts code f body = s.accepts code f body := by
  unfold State.accepts dispatchResult
  repeat' split
  · rfl
  · rfl
  · rw [operationRow_reply row hjc hfence hstore]

/-- An operation command is accepted with its work, or answered otherwise, or not taken (R16, R156). -/
theorem exec_operationRow_cases {s t : State} (h : exec c s = .next t) :
    (s.receiving = true ∧ s.accepts code f body = true
        ∧ t = (((s.acceptedWork c s).finishRetake).setFrame (answered code f .accepted [])).settle s.arb)
      ∨ (¬ (s.receiving = true ∧ s.accepts code f body = true) ∧ s.declines code f t) := by
  rw [exec_operationRow row] at h
  by_cases hr : s.receiving = true
  · rw [dispatch_receiving hr, respondedFrame_eq, Host.Outcome.next.injEq] at h
    have hwhole := h.symm
    have refused {r : Reply} (hres : dispatchResult code f (lengthIs f 0) body s = (r, s)) (hne : r.result ≠ .accepted) :
        ¬ (s.receiving = true ∧ s.accepts code f body = true) ∧ s.declines code f t := by
      rw [hres] at hwhole
      refine ⟨fun hacc => hne ?_, .inr ⟨r, hne, hwhole⟩⟩
      simpa [State.accepts, hres] using hacc.2
    have hcases : dispatchResult code f (lengthIs f 0) body s = (.bare .frameError, s)
        ∨ dispatchResult code f (lengthIs f 0) body s = (.bare .invalidArgument, s)
        ∨ dispatchResult code f (lengthIs f 0) body s = body s := by
      unfold dispatchResult
      repeat' split
      · exact .inl rfl
      · exact .inr (.inl rfl)
      · exact .inr (.inr rfl)
    obtain e | e | e := hcases
    · exact .inr (refused e (by simp [Reply.bare]))
    · exact .inr (refused e (by simp [Reply.bare]))
    · obtain hb | ⟨r, hne, hb⟩ := operationRow_cases row s
      · rw [hb] at e
        rw [e] at hwhole
        exact .inl ⟨hr, by simp [State.accepts, e, Reply.bare], hwhole⟩
      · exact .inr (refused (e.trans hb) hne)
  · rw [dispatch_notReceiving hr, Host.Outcome.next.injEq] at h
    exact .inr ⟨fun hacc => hr hacc.1, .inl h.symm⟩

end

end Sys2Proof.Machine
end

section
/-! PROOFS. O8, the events that end a hold at the Fence Unit and at an acceptance, and what comes next (R17, R70, R141,
R150, R151, log 31). -/
namespace Sys2Proof.Machine

open Sys2Proof

/-! ## Decisions to retake -/

/-- From s to t no decision to retake has come up (R70). -/
def State.opensNone (s t : State) : Prop := ∀ p, t.retaking p = true → s.retaking p = true

theorem opensNone_refl (s : State) : s.opensNone s := fun _ h => h

theorem opensNone_trans {s t u : State} (h : s.opensNone t) (h' : t.opensNone u) : s.opensNone u :=
  fun p hp => h p (h' p hp)

theorem opensNone_of_ports {s t : State} (h : ∀ p, t.port p = s.port p) : s.opensNone t :=
  fun p hp => by rwa [retaking_congr (h p)] at hp

theorem noneRetaking_of_opensNone {s t : State} (h : s.opensNone t) (hs : s.noneRetaking) : t.noneRetaking := by
  have one (p : Port) (hp : s.retaking p = false) : t.retaking p = false := by
    by_contra hr
    have := h p (by simpa using hr)
    simp [hp] at this
  exact ⟨one .a hs.1, one .b hs.2⟩

theorem noneRetaking_port {s : State} (h : s.noneRetaking) (p : Port) : s.retaking p = false := by
  cases p
  · exact h.1
  · exact h.2

/-- A decision taken is none to retake. -/
theorem takeDecision_retaking (s : State) (p : Port) : (s.takeDecision p).retaking p = false := by
  unfold State.takeDecision
  split
  · next x hx =>
    unfold State.retaking
    cases s.judge x with
    | refuse why =>
      rw [show ((s.enact p x (.refuse why)).port p).stage = .responding from refuse_stage _ _ _ _]
      rfl
    | _ => cases p <;> rfl
  · next hx => simp [State.retaking, hx]

theorem takeDecision_opensNone (s : State) (p : Port) : s.opensNone (s.takeDecision p) := by
  intro q hq
  by_cases h : q = p
  · subst h
    rw [takeDecision_retaking] at hq
    cases hq
  · rwa [retaking_congr (takeDecision_port h)] at hq

theorem atPorts_opensNone {f : State → Port → State} (hf : ∀ (s : State) p, s.opensNone (f s p)) (s : State) (both : Prop)
    [Decidable both] : s.opensNone (s.atPorts both f) := by
  have hasked : s.opensNone s.asked := opensNone_of_ports fun _ => rfl
  unfold State.atPorts
  repeat' split
  · exact opensNone_trans hasked (opensNone_trans (hf _ _) (hf _ _))
  · exact opensNone_trans hasked (opensNone_trans (hf _ _) (hf _ _))
  · exact opensNone_trans (hf _ _) (hf _ _)

theorem retakeOne_opensNone (s : State) (p : Port) : s.opensNone (s.retakeOne p) := by
  unfold State.retakeOne
  split
  · exact takeDecision_opensNone s p
  · exact opensNone_refl s

theorem retake_opensNone (s : State) : s.opensNone s.retake := atPorts_opensNone retakeOne_opensNone s _

theorem finishRetakeOne_opensNone (s : State) (p : Port) : s.opensNone (s.finishRetakeOne p) := by
  unfold State.finishRetakeOne
  split
  · exact takeDecision_opensNone s p
  · exact opensNone_refl s

theorem finishRetakeOne_retaking (s : State) (p : Port) : (s.finishRetakeOne p).retaking p = false := by
  unfold State.finishRetakeOne
  split
  · exact takeDecision_retaking s p
  · next h => simpa using h

theorem settle_opensNone (b : Arbiter) (s : State) : s.opensNone (s.settle b) := opensNone_of_ports (settle_port b s)

theorem setFrame_opensNone (s : State) (k : Option Frame) : s.opensNone (s.setFrame k) :=
  opensNone_of_ports fun p => by cases p <;> rfl

/-- Once the decisions to retake are taken, none is left (R70). -/
theorem finishRetake_finishes (s : State) : s.finishRetake.noneRetaking := by
  have two {u : State} {p q : Port} : ((u.finishRetakeOne p).finishRetakeOne q).retaking p = false := by
    by_contra h
    have := finishRetakeOne_opensNone (u.finishRetakeOne p) q p (by simpa using h)
    simp [finishRetakeOne_retaking] at this
  unfold State.finishRetake State.atPorts
  repeat' split
  · exact ⟨two, finishRetakeOne_retaking _ _⟩
  · exact ⟨finishRetakeOne_retaking _ _, two⟩
  · exact ⟨two, finishRetakeOne_retaking _ _⟩

/-! ## A frame answered ACCEPTED -/

theorem accepted_of_code {r : Result} (h : r.code = Result.accepted.code) : r = .accepted := by
  cases r with
  | accepted => rfl
  | _ => exact absurd h (by decide)

/-- An operation command that finds its frame taking bytes and leaves it answered ACCEPTED is accepted (R156, R159). -/
theorem accepted_of_frame {c : Instr} {code : Byte} {f : FrameTail} {body : State → Reply × State} {s t : State}
    (row : OperationRow c code f body) (h : exec c s = .next t) (htakes : s.takesBytes)
    (hframe : t.frame = answered code f .accepted []) :
    (s.receiving = true ∧ s.accepts code f body = true)
      ∧ t = (((s.acceptedWork c s).finishRetake).setFrame (answered code f .accepted [])).settle s.arb := by
  obtain ⟨hr, hacc, ht⟩ | ⟨-, rfl | ⟨r, hne, rfl⟩⟩ := exec_operationRow_cases row h
  · exact ⟨⟨hr, hacc⟩, ht⟩
  · obtain ⟨-, k, hk, hphase⟩ := htakes
    rw [hk, answered, Option.some.injEq] at hframe
    rw [hframe] at hphase
    cases hphase
  · simp only [State.settle_untouched, State.setFrame_frame] at hframe
    exact absurd (accepted_of_code (answered_result hframe)) hne

/-! ## What comes next (log 31) -/

theorem acceptanceNext_row {s : State} (h : s.acceptanceNext = true) :
    ∃ a code f body, s.pending.head? = some a ∧ OperationRow a code f body ∧ s.receiving = true
      ∧ s.accepts code f body = true := by
  unfold State.acceptanceNext at h
  obtain ⟨hr, h⟩ := (Bool.and_eq_true _ _).mp h
  split at h
  · next e => exact ⟨_, _, _, _, by rw [e]; rfl, .commit _, hr, h⟩
  · next e => exact ⟨_, _, _, _, by rw [e]; rfl, .abort _, hr, h⟩
  · next e => exact ⟨_, _, _, _, by rw [e]; rfl, .format _, hr, h⟩
  · next e => exact ⟨_, _, _, _, by rw [e]; rfl, .apply _, hr, h⟩
  · cases h

theorem takesBytes_of_receiving {s : State} (h : s.receiving = true) : s.takesBytes := by
  obtain ⟨h1, h2⟩ := (Bool.and_eq_true _ _).mp h
  refine ⟨by simpa using h1, ?_⟩
  split at h2
  · next k hk => exact ⟨k, hk, by simpa using h2⟩
  · cases h2

theorem operationRow_command {c : Instr} {code : Byte} {f : FrameTail} {body : State → Reply × State}
    (row : OperationRow c code f body) : c = .commit f ∨ c = .abort f ∨ c = .format f ∨ c = .apply f := by
  cases row
  · exact .inl rfl
  · exact .inr (.inl rfl)
  · exact .inr (.inr (.inl rfl))
  · exact .inr (.inr (.inr rfl))

/-- An acceptance that was seen to come next does come next, to any part with the same block to answer it. -/
theorem comesNext_of_acceptance {s x t : State} (h : x.acceptanceNext = true) (hpending : s.pending = x.pending)
    (hpins : t.pins = x.pins) (hframe : t.frame = x.frame) (hjc : t.jc = x.jc) (hfence : t.fence = x.fence)
    (hstore : t.store = x.store) : s.comesNext t .pfailRise := by
  obtain ⟨a, code, f, body, hhead, row, hr, hacc⟩ := acceptanceNext_row h
  obtain ⟨u, hu⟩ := exec_answers a t
  have hr' : t.receiving = true := by
    unfold State.receiving State.inReset at hr ⊢
    rwa [hpins, hframe]
  have hacc' : t.accepts code f body = true := (accepts_congr row hjc hfence hstore).trans hacc
  obtain ⟨-, -, rfl⟩ | ⟨hno, -⟩ := exec_operationRow_cases row hu
  · refine ⟨a, _, hpending ▸ hhead, hu, .inr ⟨code, f, operationRow_command row, frameOf_operationRow row,
      takesBytes_of_receiving hr', by simp⟩, .inl ⟨rfl, ?_⟩⟩
    rintro rfl
    cases row
  · exact absurd ⟨hr', hacc'⟩ hno

/-- A fall that was seen to come next does come next. -/
theorem comesNext_of_fall {s t : State} {f : FrameTail} (h : s.fallNext = true) (hreset : s.inReset = false)
    (hpins : t.pins = s.pins) : s.comesNext t (.releaseFence f) := by
  obtain ⟨hlow, hhead⟩ := (Bool.and_eq_true _ _).mp h
  obtain ⟨u, hu⟩ := exec_answers .pfailFall t
  refine ⟨.pfailFall, u, by simpa using hhead, hu, .inl ⟨rfl, ?_, ?_⟩, .inr ⟨f, rfl, rfl⟩⟩
  · unfold State.inReset at hreset ⊢
    rwa [hpins]
  · rw [hpins]
    simpa using hlow

end Sys2Proof.Machine
end

section
/-! PROOFS. O8, a rise of PFAIL#, a RELEASE_FENCE and an APPLY that ends with NOT_EMPTY at its acceptance (R70, R141,
R150, R151). -/
namespace Sys2Proof.Machine

open Sys2Proof

theorem retakeOneAtFence_setFrame (b : Bool) (s : State) (k : Option Frame) (p : Port) :
    (State.retakeOneAtFence b s p).setFrame k = State.retakeOneAtFence b (s.setFrame k) p := by
  have hport : (s.setFrame k).port p = s.port p := by cases p <;> rfl
  unfold State.retakeOneAtFence State.retakeOne
  rw [hport]
  repeat' split
  · exact (takeDecision_setFrame s.asked k p).symm
  · next h => exact absurd ‹_› h
  · next h _ => exact absurd ‹_› h
  · cases p <;> rfl
  · exact (takeDecision_setFrame s k p).symm
  · rfl

/-- What two ports do one after the other leaves the frame to the dispatch. -/
theorem atPorts_setFrame {f : State → Port → State} {k : Option Frame}
    (hf : ∀ (s : State) p, (f s p).setFrame k = f (s.setFrame k) p) (s : State) (both : Prop) [Decidable both] :
    (s.atPorts both f).setFrame k = (s.setFrame k).atPorts both f := by
  have two (u : State) (p q : Port) : (f (f u p) q).setFrame k = f (f (u.setFrame k) p) q := by rw [hf, hf]
  show State.setFrame (if both then if s.askWorld then _ else _ else _) k
    = if both then if s.askWorld then _ else _ else _
  repeat' split
  · exact two s.asked .a .b
  · exact two s.asked .b .a
  · exact two s .a .b

theorem retakeAtFence_setFrame (b : Bool) (s : State) (k : Option Frame) :
    (s.retakeAtFence b).setFrame k = (s.setFrame k).retakeAtFence b :=
  atPorts_setFrame (fun u p => retakeOneAtFence_setFrame b u k p) s _

theorem finishRetake_setFrame (s : State) (k : Option Frame) :
    s.finishRetake.setFrame k = (s.setFrame k).finishRetake := by
  refine atPorts_setFrame (fun u p => ?_) s _
  have hretaking : (u.setFrame k).retaking p = u.retaking p := retaking_congr (by cases p <;> rfl)
  unfold State.finishRetakeOne
  rw [hretaking]
  split
  · exact (takeDecision_setFrame u k p).symm
  · rfl

theorem pfailRise_returns {s s' t u : State} (h : s.reopens s') (ht : exec .pfailRise s = .next t)
    (hu : exec .pfailRise s' = .next u) (hends : s.endsHolding t .pfailRise) :
    s.returns t u (s.comesNext t .pfailRise) := by
  have hpins : s'.pins = s.pins := by rw [h.eq]; rfl
  have idle {z : State} (hf : z.fence = s.fence) (hj : z.jc = s.jc) : ¬ s.endsHolding z .pfailRise :=
    not_endsHolding (.inl (by rw [hf])) (fun _ => by rw [hj]) nofun
  cases hlow : s.pins.pfailLow with
  | false =>
    simp only [exec, execPfailRise, hlow] at ht
    cases ht
    exact absurd hends (idle rfl rfl)
  | true =>
    cases hreset : s.inReset with
    | true =>
      simp only [exec, execPfailRise, hlow, hreset] at ht
      cases ht
      exact absurd hends (idle rfl rfl)
    | false =>
      rw [exec_pfailRise hreset hlow] at ht
      rw [exec_pfailRise ((reopens_inReset h).trans hreset) (hpins ▸ hlow), hpins] at hu
      cases ht
      cases hu
      have hrise : (s.setPins { s.pins with pfailLow := false }).reopens (s'.setPins { s.pins with pfailLow := false }) :=
        reopens_of_ported (G := (State.setPins · { s.pins with pfailLow := false })) h fun a b => rfl
      cases hmode : s.fence.mode with
      | latched =>
        rw [pfailRises_latched (by exact hmode)] at hends
        exact absurd hends (not_endsHolding (.inr (by simp)) (fun _ => by simp) nofun)
      | level =>
        have hmode' : s'.fence.mode = .level := by rw [h.eq]; exact hmode
        have hnormal := reopens_of_ported (G := (State.changeFence · .normal)) hrise fun a b => rfl
        rw [pfailRises_level (by exact hmode), pfailRises_level (by exact hmode'),
          retakeAtFence_noneHeld (reopens_noneHeld hnormal)]
        refine ⟨_, _, alike_settle _ _, alike_trans (reopens_alike hnormal) (alike_settle _ _),
          fun hb => ?_, ?_, fun p => ?_⟩
        · exact comesNext_of_acceptance hb rfl (by simp) (by simp) (by simp) (by simp) (by simp)
        · simpa [State.inReset, State.changeFence] using hreset
        · exact .inl (by cases p <;> rfl)

/-- A RELEASE_FENCE that passes its checks (R151). -/
def State.releasable (s : State) (f : FrameTail) : Prop :=
  crcMatches codeReleaseFence f = true ∧ lengthIs f 0 = true ∧ s.jc.op = .none ∧ s.fence.mode = .latched
    ∧ s.fence.state = .latched

theorem releaseResult {s : State} {f : FrameTail} (h : s.releasable f) :
    dispatchResult codeReleaseFence f (lengthIs f 0) State.releaseFence s
      = (.ok [], (s.changeFence .normal).retakeAtFence s.fallNext) := by
  obtain ⟨h1, h2, h3, h4, h5⟩ := h
  simp [dispatchResult, State.releaseFence, h1, h2, h3, h4, h5]

theorem releaseResult_refused {s : State} {f : FrameTail} (h : ¬ s.releasable f) :
    (dispatchResult codeReleaseFence f (lengthIs f 0) State.releaseFence s).2 = s := by
  unfold dispatchResult State.releaseFence
  repeat' split
  · rfl
  · rfl
  · rfl
  · rfl
  · next hcrc hlen hop hlatched =>
    have hm : s.fence.mode = .latched ∧ s.fence.state = .latched := by simpa using hlatched
    exact absurd ⟨by simpa using hcrc, by simpa using hlen, by simpa using hop, hm⟩ h

theorem reopens_receiving {s s' : State} (h : s.reopens s') : s'.receiving = s.receiving := by
  rw [h.eq]
  rfl

theorem releaseFence_returns {s s' t u : State} {f : FrameTail} (h : s.reopens s')
    (ht : exec (.releaseFence f) s = .next t) (hu : exec (.releaseFence f) s' = .next u)
    (hends : s.endsHolding t (.releaseFence f)) : s.returns t u (s.comesNext t (.releaseFence f)) := by
  change dispatch codeReleaseFence f (lengthIs f 0) State.releaseFence s = .next t at ht
  change dispatch codeReleaseFence f (lengthIs f 0) State.releaseFence s' = .next u at hu
  by_cases hr : s.receiving = true
  · rw [dispatch_receiving hr] at ht
    rw [dispatch_receiving ((reopens_receiving h).trans hr)] at hu
    cases ht
    cases hu
    by_cases hgood : s.releasable f
    · have hgood' : s'.releasable f := by rw [h.eq]; exact hgood
      rw [releaseResult hgood, releaseResult hgood']
      have hnormal := reopens_of_ported (G := (State.changeFence · .normal)) h fun a b => rfl
      rw [retakeAtFence_noneHeld (reopens_noneHeld hnormal)]
      dsimp only
      rw [retakeAtFence_setFrame]
      have hframe := reopens_of_ported
        (G := (State.setFrame · (some (respondedFrame codeReleaseFence f (.ok []))))) hnormal fun a b => rfl
      refine ⟨_, _, alike_settle _ _, alike_trans (reopens_alike hframe) (alike_settle _ _),
        fun hb => ?_, ?_, fun p => ?_⟩
      · exact comesNext_of_fall hb (inReset_of_receiving hr) (by simp)
      · simpa [State.inReset, State.changeFence] using inReset_of_receiving hr
      · exact .inl (by cases p <;> rfl)
    · rw [releaseResult_refused hgood] at hends
      exact absurd hends (not_endsHolding (.inl (by simp)) (fun _ => by simp) nofun)
  · rw [dispatch_notReceiving hr] at ht
    cases ht
    exact absurd hends (not_endsHolding_self nofun)

/-! ## An APPLY that ends with NOT_EMPTY at its acceptance (R141) -/

theorem reopens_toDrain {s s' : State} (h : s.reopens s') : s'.toDrain = s.toDrain := by
  have same (p : Port) : ((s'.port p).stage = .captureWait ∨ (s'.port p).stage = .inMemory)
      ↔ ((s.port p).stage = .captureWait ∨ (s.port p).stage = .inMemory) := by
    rw [reopens_stage h p, HostPort.reopened]
    split
    · next e => simp [e]
    · rfl
  unfold State.toDrain
  exact List.filter_congr fun p _ => decide_eq_decide.mpr (same p)

/-- An acceptance leaves the fence, and a frame that is not accepted the journal with it. -/
theorem declines_untouched {s t : State} {code : Byte} {f : FrameTail} (h : s.declines code f t) :
    t.fence = s.fence ∧ t.jc = s.jc := by
  obtain rfl | ⟨r, -, rfl⟩ := h <;> simp

/-- An APPLY that ends a hold is accepted and is over at once (R141). -/
theorem apply_accepted {s t : State} {f : FrameTail} (ht : exec (.apply f) s = .next t)
    (hends : s.endsHolding t (.apply f)) :
    (s.receiving = true ∧ s.accepts codeApply f State.applyCommand = true) ∧ t.jc.op = .none
      ∧ t = (((s.acceptedWork (.apply f) s).finishRetake).setFrame (answered codeApply f .accepted [])).settle s.arb := by
  have row := OperationRow.apply f
  have hfence : t.fence = s.fence := by
    obtain ⟨-, -, rfl⟩ | ⟨-, hno⟩ := exec_operationRow_cases row ht
    · simp [State.acceptedWork, State.accept]
    · exact (declines_untouched hno).1
  obtain ⟨hup, hnormal⟩ | ⟨ho, hnone⟩ | ⟨f', e, htakes, hframe, hnone⟩ := hends
  · exact absurd (hfence ▸ hnormal) hup
  · obtain ⟨hr, hacc, ht⟩ | ⟨-, hno⟩ := exec_operationRow_cases row ht
    · exact ⟨⟨hr, hacc⟩, hnone, ht⟩
    · rw [(declines_untouched hno).2] at hnone
      simp [hnone] at ho
  · cases e
    obtain ⟨hacc, ht⟩ := accepted_of_frame row ht htakes hframe
    exact ⟨hacc, hnone, ht⟩

theorem apply_returns {s s' t u : State} {f : FrameTail} {wait : Prop} (h : s.reopens s') (hs : s.noneRetaking)
    (hs' : s'.noneRetaking) (ht : exec (.apply f) s = .next t) (hu : exec (.apply f) s' = .next u)
    (hends : s.endsHolding t (.apply f)) : s.returns t u wait := by
  have row := OperationRow.apply f
  obtain ⟨⟨hr, hacc⟩, hnone, ht⟩ := apply_accepted ht hends
  have hu : u = (((s'.accept .applying .apply).startDrain s.toDrain).finishRetake.setFrame
      (answered codeApply f .accepted [])).settle s'.arb := by
    obtain ⟨-, -, hu⟩ | ⟨hno, -⟩ := exec_operationRow_cases row hu
    · rw [hu, ← reopens_toDrain h]
      rfl
    · refine absurd ⟨(reopens_receiving h).trans hr, Eq.trans ?_ hacc⟩ hno
      rw [h.eq]
      exact accepts_congr row rfl rfl rfl
  have hy := reopens_of_ported (G := (State.accept · .applying .apply)) h fun a b => rfl
  cases startDrain_worksBy (s.accept .applying .apply) s.toDrain with
  | beside z hz hk =>
    have e : (s.accept .applying .apply).startDrain s.toDrain = z.ported s.portA s.portB := hz s.portA s.portB
    rw [ht] at hnone
    simp only [State.acceptedWork, e, State.settle_untouched, State.setFrame_jc, State.finishRetake_untouched] at hnone
    have : z.jc.op = .apply := hk.2 (.inr rfl)
    rw [show (z.ported s.portA s.portB).jc = z.jc from rfl, this] at hnone
    cases hnone
  | retaking z hz =>
    have hx : (z.ported s.portA s.portB).reopens (z.ported s'.portA s'.portB) := reopens_ported h z
    have e : (s.accept .applying .apply).startDrain s.toDrain = (z.ported s.portA s.portB).retake := hz s.portA s.portB
    have e' : (s'.accept .applying .apply).startDrain s.toDrain = z.ported s'.portA s'.portB := by
      rw [hy.eq, hz]
      exact retake_noneHeld (reopens_noneHeld hx)
    have hquiet : (z.ported s.portA s.portB).retake.noneRetaking :=
      noneRetaking_of_opensNone (retake_opensNone _) (by exact hs)
    rw [ht, hu]
    simp only [State.acceptedWork]
    rw [e, e', finishRetake_noneRetaking hquiet, finishRetake_noneRetaking (by exact hs'), retake_eq,
      retakeAtFence_setFrame]
    have hframe := reopens_of_ported (G := (State.setFrame · (answered codeApply f .accepted []))) hx fun a b => rfl
    refine ⟨_, _, alike_settle _ _, alike_trans (reopens_alike hframe) (alike_settle _ _), nofun, ?_, fun p => ?_⟩
    · have hpins : ((s.accept .applying .apply).startDrain s.toDrain).pins = s.pins := by simp [State.accept]
      rw [e, (State.retake_untouched _).1] at hpins
      have := inReset_of_receiving hr
      unfold State.inReset at this ⊢
      simpa [hpins] using this
    · exact .inl (by cases p <;> rfl)

end Sys2Proof.Machine
end

section
/-! PROOFS. O8, held writes at the event that ends their hold: the part comes out as if they had been newly presented and
had then taken their decisions (R70, log 8, log 31). -/
namespace Sys2Proof.Machine

open Sys2Proof

theorem inReset_of_alike {s t : State} (h : s.alike t) : t.inReset = s.inReset := by
  have : t.pins = s.pins := (congrArg State.pins h.core :)
  rw [State.inReset, State.inReset, this]

theorem decideAt_inReset (s : State) (p : Port) : (s.decideAt p).inReset = s.inReset := by
  unfold State.decideAt
  split
  · simp [State.inReset]
  · rfl

/-- Outside a reset the policy decision of a port is its decision if it stands in DECIDING (R63, R67). -/
theorem exec_policyDecision_alike {u v : State} {p : Port} (h : exec (.policyDecision p) u = .next v)
    (hreset : u.inReset = false) : (u.decideAt p).alike v ∧ v.inReset = false := by
  have halike : (u.decideAt p).alike v := by
    simp only [exec, execPolicyDecision, State.decided, hreset, Bool.not_false, and_true] at h
    unfold State.decideAt
    split at h
    · next hst =>
      rw [if_pos hst]
      cases h
      exact alike_settle _ _
    · next hst =>
      rw [if_neg hst]
      cases h
      exact alike_refl u
  exact ⟨halike, by rw [inReset_of_alike halike, decideAt_inReset, hreset]⟩

/-- A held write at a port the event leaves alone, or answers. -/
theorem mayHold_of_returned {s x : State} {p : Port} (h : x.port p = s.port p ∨ (x.port p).stage = .responding)
    (hp : (s.port p).stage = .held) (htxn : (s.port p).txn ≠ none) : x.mayHold p := by
  obtain h | h := h
  · refine ⟨by simp [h, hp], fun _ => h ▸ htxn⟩
  · exact ⟨by simp [h], by simp [h]⟩

/-- One held write retakes its decision, or waits with it for what comes next. -/
theorem returns_one {s t u v : State} {wait : Prop} {p q : Port} (h : s.returns t u wait) (hpq : q ≠ p)
    (hp : (s.port p).stage = .held) (htxn : (s.port p).txn ≠ none) (hq : (s.port q).stage ≠ .held)
    (hv : exec (.policyDecision p) u = .next v) : t.alike v ∨ (wait ∧ t.alike u) := by
  obtain ⟨x, b, hxt, hxu, hwait, hreset, hports⟩ := h
  have hreset' : u.inReset = false := (inReset_of_alike hxu).trans hreset
  have hxq : (x.port q).stage ≠ .held := by
    obtain e | e := hports q
    · rwa [e]
    · simp [e]
  have hxv := alike_trans (alike_decideAt hxu p) (exec_policyDecision_alike hv hreset').1
  obtain hd | ⟨hb, hd⟩ := retakeAtFence_one (b := b) hpq (mayHold_of_returned (hports p) hp htxn) hxq
  · exact .inl (alike_trans (alike_symm (alike_trans hd hxt)) hxv)
  · exact .inr ⟨hwait hb, alike_trans (alike_symm (alike_trans hd hxt)) hxu⟩

/-- Two held writes retake their decisions, in one order or the other, or wait with them. -/
theorem returns_two {s t u : State} {wait : Prop} {p q : Port} (h : s.returns t u wait) (hpq : q ≠ p)
    (hp : (s.port p).stage = .held) (hptxn : (s.port p).txn ≠ none) (hq : (s.port q).stage = .held)
    (hqtxn : (s.port q).txn ≠ none) : u.inReset = false ∧ u.decides wait p q t := by
  obtain ⟨x, b, hxt, hxu, hwait, hreset, hports⟩ := h
  refine ⟨(inReset_of_alike hxu).trans hreset, decides_congr (alike_symm hxu) hxt hwait ?_⟩
  exact retakeAtFence_two hpq (mayHold_of_returned (hports p) hp hptxn) (mayHold_of_returned (hports q) hq hqtxn)

/-- What the decisions leave, taken as events of their own. -/
theorem agrees_of_decides {t u v v' w w' : State} {wait : Prop} {p q : Port} (hreset : u.inReset = false)
    (h : u.decides wait p q t) (hv : exec (.policyDecision p) u = .next v) (hv' : exec (.policyDecision q) v = .next v')
    (hw : exec (.policyDecision q) u = .next w) (hw' : exec (.policyDecision p) w = .next w') :
    t.agrees v' ∨ t.agrees w' ∨ (wait ∧ (t.agrees u ∨ t.agrees v ∨ t.agrees w)) := by
  obtain ⟨av, rv⟩ := exec_policyDecision_alike hv hreset
  obtain ⟨av', -⟩ := exec_policyDecision_alike hv' rv
  obtain ⟨aw, rw⟩ := exec_policyDecision_alike hw hreset
  obtain ⟨aw', -⟩ := exec_policyDecision_alike hw' rw
  have via {x y : State} (hxt : x.alike t) (hxy : x.alike y) : t.agrees y :=
    agrees_of_alike (alike_trans (alike_symm hxt) hxy)
  obtain h | h | ⟨hwait, h | h | h⟩ := h
  · exact .inl (via h (alike_trans (alike_decideAt av q) av'))
  · exact .inr (.inl (via h (alike_trans (alike_decideAt aw p) aw')))
  · exact .inr (.inr ⟨hwait, .inl (via h (alike_refl u))⟩)
  · exact .inr (.inr ⟨hwait, .inr (.inl (via h av))⟩)
  · exact .inr (.inr ⟨hwait, .inr (.inr (via h aw))⟩)

/-- The events at which a hold can end (R70). -/
theorem exec_returns {c : Instr} {f : FrameTail} {merr : Bool} {k : Port} {s s' t u : State}
    (hc : c = .pfailRise ∨ c = .releaseFence f ∨ c = .anchorWriteComplete ∨ c = .apply f
      ∨ c = .hostReadComplete k merr ∨ c = .hostWriteComplete k ∨ c = .lineReadComplete merr
      ∨ c = .slotReservation) (h : s.reopens s') (hs : s.noneRetaking) (hs' : s'.noneRetaking)
    (ht : exec c s = .next t) (hu : exec c s' = .next u) (hends : s.endsHolding t c) :
    s.returns t u (s.comesNext t c) := by
  obtain rfl | rfl | rfl | rfl | rfl | rfl | rfl | rfl := hc
  · exact pfailRise_returns h ht hu hends
  · exact releaseFence_returns h ht hu hends
  · exact anchorWriteComplete_returns h ht hu hends
  · exact apply_returns h hs hs' ht hu hends
  · exact hostReadComplete_returns h ht hu hends
  · exact hostWriteComplete_returns h ht hu hends
  · exact lineReadComplete_returns h ht hu hends
  · exact slotReservation_returns h ht hu hends

theorem retaking_of_unmarked {s : State} {p : Port} {x : HostPort} (h : s.port p = x.unmarked) :
    s.retaking p = false := by
  unfold State.retaking
  rw [h]
  cases hx : x.txn <;> simp [HostPort.unmarked, Txn.unmarked, hx]

/-- A write newly presented has no decision to retake. -/
theorem redecides_retaking (s : State) (p : Port) : (s.redecides p).retaking p = false :=
  retaking_of_unmarked ((redecides_port s p p).trans (if_pos rfl))

theorem redecides_retaking_other {s : State} {p q : Port} (hpq : q ≠ p) :
    (s.redecides p).retaking q = s.retaking q :=
  retaking_congr ((redecides_port s p q).trans (if_neg hpq.symm))

theorem noneRetaking_of_both {s : State} {p q : Port} (hpq : q ≠ p) (hp : s.retaking p = false)
    (hq : s.retaking q = false) : s.noneRetaking := by
  obtain ⟨rfl, rfl⟩ | ⟨rfl, rfl⟩ := ports_of_ne hpq
  · exact ⟨hp, hq⟩
  · exact ⟨hq, hp⟩

theorem redecides_noneRetaking {s : State} {p q : Port} (hpq : q ≠ p) (hq : s.retaking q = false) :
    (s.redecides p).noneRetaking :=
  noneRetaking_of_both hpq (redecides_retaking s p) ((redecides_retaking_other hpq).trans hq)

theorem redecides_two_noneRetaking {s : State} {p q : Port} (hpq : q ≠ p) :
    ((s.redecides p).redecides q).noneRetaking :=
  noneRetaking_of_both hpq ((redecides_retaking_other hpq.symm).trans (redecides_retaking s p)) (redecides_retaking _ q)

end Sys2Proof.Machine
end

section
/-! PROOFS. O8, the decisions to retake that an acceptance or a fall of PFAIL# was taken before (R17, R70, R151,
log 31). -/
namespace Sys2Proof.Machine

open Sys2Proof

/-! ## What shuts a decision out -/

theorem ported_port {s : State} {G : State → State} (hG : ∀ a b, G (s.ported a b) = (G s).ported a b) (p : Port) :
    (G s).port p = s.port p := by
  have e : G s = (G s).ported s.portA s.portB := hG s.portA s.portB
  rw [e]
  cases p <;> rfl

/-- Where no write is held, the work leaves the ports as they are. -/
theorem worksBy_reopens {y y' : State} {G : State → State} (hw : y.worksBy G) (hy : y.reopens y') (hnone : y.noneHeld) :
    (G y).reopens (G y') ∧ ∀ p, (G y).port p = y.port p := by
  have result (z : State) (e : G y = z.ported y.portA y.portB) (e' : G y' = z.ported y'.portA y'.portB) :
      (G y).reopens (G y') ∧ ∀ p, (G y).port p = y.port p := by
    rw [e, e']
    exact ⟨reopens_ported hy z, fun p => by cases p <;> rfl⟩
  have there (z z' : State) (hz : G (y.ported y'.portA y'.portB) = z') : G y' = z' := (congrArg G hy.eq).trans hz
  cases hw with
  | beside z hz _ => exact result z (hz y.portA y.portB) (there z _ (hz _ _))
  | retaking z hz =>
    refine result z ((hz y.portA y.portB).trans (retake_noneHeld hnone)) (there z _ ((hz _ _).trans (retake_noneHeld ?_)))
    exact reopens_noneHeld (reopens_ported hy z)

/-- So does what an acceptance begins. -/
theorem acceptedWork_reopens {c : Instr} {code : Byte} {f : FrameTail} {body : State → Reply × State}
    (row : OperationRow c code f body) {s s' : State} (h : s.reopens s') (hnone : s.noneHeld) :
    (s.acceptedWork c s).reopens (s'.acceptedWork c s') ∧ ∀ p, (s.acceptedWork c s).port p = s.port p := by
  have hjc : s'.jc = s.jc := by rw [h.eq]; rfl
  have hdrain := reopens_toDrain h
  have accepted (st : JournalState) (op : LongOp) : (s.accept st op).reopens (s'.accept st op) :=
    reopens_of_ported (G := (State.accept · st op)) h fun a b => rfl
  have drains (st : JournalState) (op : LongOp) (ports : List Port) :=
    worksBy_reopens (startDrain_worksBy (s.accept st op) ports) (accepted st op) hnone
  cases row with
  | commit f =>
    simp only [State.acceptedWork, hjc, hdrain]
    split
    · exact ⟨reopens_of_ported (accepted _ _) fun a b => (startAdvance_ported _ a b).symm,
        ported_port (s := s.accept .committing .commit) fun a b => (startAdvance_ported _ a b).symm⟩
    · exact drains _ _ _
  | abort f =>
    simp only [State.acceptedWork, hjc, hdrain]
    split
    · exact ⟨reopens_of_ported (G := (State.startScan · .rescanning)) (accepted _ _)
          fun a b => (startScan_ported _ _ a b).symm,
        ported_port (s := s.accept .aborting .abort) (G := (State.startScan · .rescanning))
          fun a b => (startScan_ported _ _ a b).symm⟩
    · exact drains _ _ _
  | format f =>
    simp only [State.acceptedWork, hjc, hdrain]
    exact drains _ _ _
  | apply f =>
    simp only [State.acceptedWork, hdrain]
    exact drains _ _ _

theorem acceptedWork_pins {c : Instr} {code : Byte} {f : FrameTail} {body : State → Reply × State}
    (row : OperationRow c code f body) (s : State) : (s.acceptedWork c s).pins = s.pins := by
  cases row with
  | commit f =>
    simp only [State.acceptedWork]
    split <;> simp [State.accept]
  | abort f =>
    simp only [State.acceptedWork]
    split <;> simp [State.accept]
  | format f => simp [State.acceptedWork, State.accept]
  | apply f => simp [State.acceptedWork, State.accept]

/-- From s and from the same part with its writes newly presented, an event that shuts decisions out leaves t and u: t is
what the decisions to retake make of the part in which u has them still to take. -/
def State.finishes (s t u : State) : Prop :=
  ∃ x : State, x.finishRetake.alike t ∧ x.alike u ∧ x.inReset = false ∧ ∀ p, x.port p = s.port p

/-- Where no write is held, newly presented writes differ in their marks alone. -/
theorem alike_of_reopens {s s' : State} (h : s.reopens s') (hnone : s.noneHeld) : s.alike s' := by
  have e : s.reopened = s := by
    rw [← reopened_eq s (p := .a) (q := .b) nofun, reopenAt_of_notHeld (p := .a) hnone.1,
      reopenAt_of_notHeld (p := .b) hnone.2]
  exact e ▸ reopens_alike h

theorem noneHeld_congr {s t : State} (h : s.noneHeld) (hport : ∀ p, t.port p = s.port p) : t.noneHeld := by
  refine ⟨?_, ?_⟩
  · rw [show t.portA = s.portA from hport .a]
    exact h.1
  · rw [show t.portB = s.portB from hport .b]
    exact h.2

theorem noneHeld_port {s : State} (h : s.noneHeld) (p : Port) : (s.port p).stage ≠ .held := by
  cases p
  · exact h.1
  · exact h.2

/-- A part in which no write is held is itself with its held writes newly presented. -/
theorem reopens_self {s : State} (h : s.noneHeld) : s.reopens s := by
  refine ⟨rfl, fun p => ?_⟩
  rw [HostPort.reopened, if_neg (noneHeld_port h p)]

theorem shutsOut_finishes {c : Instr} {s s' t u : State} (h : s.reopens s') (hnone : s.noneHeld) (hs' : s'.noneRetaking)
    (hshut : s.shutsOut t c) (ht : exec c s = .next t) (hu : exec c s' = .next u) : s.finishes t u := by
  obtain ⟨rfl, hreset, hlow⟩ | ⟨code, f, hc, hcode, htakes, hframe⟩ := hshut
  · have hpins : s'.pins = s.pins := by rw [h.eq]; rfl
    rw [exec_pfailFall hreset hlow] at ht
    rw [exec_pfailFall ((reopens_inReset h).trans hreset) (hpins ▸ hlow), hpins,
      finishRetake_noneRetaking (by exact hs')] at hu
    cases ht
    cases hu
    have hx := reopens_of_ported
      (G := fun z => (z.setPins { s.pins with pfailLow := true }).changeFence .fenced) h fun a b => rfl
    refine ⟨_, alike_settle _ _, alike_trans (alike_of_reopens hx hnone) (alike_settle _ _), ?_, fun p => ?_⟩
    · simpa [State.inReset, State.changeFence] using hreset
    · cases p <;> rfl
  · obtain ⟨body, row⟩ := operationRow_of_shuts hc hcode
    obtain ⟨hacc, ht⟩ := accepted_of_frame row ht htakes hframe
    obtain ⟨hwork, hports⟩ := acceptedWork_reopens row h hnone
    have hquiet : (s'.acceptedWork c s').noneRetaking := by
      have hnone' := reopens_noneHeld h
      exact noneRetaking_of_opensNone (opensNone_of_ports (acceptedWork_reopens row (reopens_self hnone') hnone').2) hs'
    obtain ⟨-, -, hu⟩ | ⟨hno, -⟩ := exec_operationRow_cases row hu
    · rw [finishRetake_noneRetaking hquiet] at hu
      rw [finishRetake_setFrame] at ht
      have hx := reopens_of_ported (G := (State.setFrame · (answered code f .accepted []))) hwork fun a b => rfl
      refine ⟨(s.acceptedWork c s).setFrame (answered code f .accepted []), ht ▸ alike_settle _ _,
        hu ▸ alike_trans (alike_of_reopens hx (noneHeld_congr hnone hports)) (alike_settle _ _), ?_, fun p => ?_⟩
      · have hreset := htakes.1
        unfold State.inReset at hreset ⊢
        rwa [← acceptedWork_pins row s] at hreset
      · rw [← hports p]
        cases p <;> rfl
    · refine absurd ⟨(reopens_receiving h).trans hacc.1, Eq.trans ?_ hacc.2⟩ hno
      rw [h.eq]
      exact accepts_congr row rfl rfl rfl

/-! ## The decisions taken after it -/

theorem finishRetakeOne_idle {s : State} {p : Port} (h : s.retaking p = false) : s.finishRetakeOne p = s := by
  simp [State.finishRetakeOne, h]

theorem deciding_of_retaking {s : State} {p : Port} (h : s.retaking p = true) : (s.port p).stage = .deciding := by
  simpa using (Bool.and_eq_true _ _).mp h |>.1

theorem finishRetakeOne_retaken {s : State} {p : Port} (h : s.retaking p = true) :
    s.finishRetakeOne p = s.decideAt p := by
  rw [State.finishRetakeOne, if_pos h, State.decideAt, if_pos (deciding_of_retaking h)]

/-- One decision to retake is taken. -/
theorem finishRetake_one {s : State} {p q : Port} (hpq : q ≠ p) (hp : s.retaking p = true) (hq : s.retaking q = false) :
    s.finishRetake = s.decideAt p := by
  have hnot : ¬ (s.retaking .a ∧ s.retaking .b) := by
    obtain ⟨rfl, rfl⟩ | ⟨rfl, rfl⟩ := ports_of_ne hpq <;> simp [hq]
  unfold State.finishRetake State.atPorts
  rw [if_neg hnot]
  obtain ⟨rfl, rfl⟩ | ⟨rfl, rfl⟩ := ports_of_ne hpq
  · rw [finishRetakeOne_retaken hp, finishRetakeOne_idle]
    rwa [retaking_congr (decideAt_port (p := .a) (q := .b) nofun)]
  · rw [finishRetakeOne_idle hq, finishRetakeOne_retaken hp]

/-- Two are taken in one order or the other (log 8). -/
theorem finishRetake_two {s : State} {p q : Port} (hpq : q ≠ p) (hp : s.retaking p = true) (hq : s.retaking q = true) :
    s.decides False p q s.finishRetake := by
  have hboth : s.retaking .a = true ∧ s.retaking .b = true := by
    obtain ⟨rfl, rfl⟩ | ⟨rfl, rfl⟩ := ports_of_ne hpq
    · exact ⟨hp, hq⟩
    · exact ⟨hq, hp⟩
  have two {u v : Port} (huv : v ≠ u) (hu : s.retaking u = true) (hv : s.retaking v = true) :
      s.decides False u v ((s.asked.finishRetakeOne u).finishRetakeOne v) := by
    rw [finishRetakeOne_retaken (s := s.asked) hu, finishRetakeOne_retaken]
    · exact .inl (alike_decideAt (alike_decideAt (alike_asked s) u) v)
    · rw [retaking_congr (decideAt_port huv)]
      exact hv
  have first : s.decides False .a .b s.finishRetake := by
    unfold State.finishRetake State.atPorts
    rw [if_pos hboth]
    split
    · exact two nofun hboth.1 hboth.2
    · exact decides_swap (two nofun hboth.2 hboth.1)
  obtain ⟨rfl, rfl⟩ | ⟨rfl, rfl⟩ := ports_of_ne hpq
  · exact first
  · exact decides_swap first

/-- One decision to retake, taken right after the event. -/
theorem finishes_one {s t u v : State} {p q : Port} (h : s.finishes t u) (hpq : q ≠ p) (hp : s.retaking p = true)
    (hq : s.retaking q = false) (hv : exec (.policyDecision p) u = .next v) : t.agrees v := by
  obtain ⟨x, hxt, hxu, hreset, hports⟩ := h
  rw [finishRetake_one hpq ((retaking_congr (hports p)).trans hp) ((retaking_congr (hports q)).trans hq)] at hxt
  have hxv := alike_trans (alike_decideAt hxu p) (exec_policyDecision_alike hv ((inReset_of_alike hxu).trans hreset)).1
  exact agrees_of_alike (alike_trans (alike_symm hxt) hxv)

/-- Two of them, in one order or the other. -/
theorem finishes_two {s t u : State} {p q : Port} (h : s.finishes t u) (hpq : q ≠ p) (hp : s.retaking p = true)
    (hq : s.retaking q = true) : u.inReset = false ∧ u.decides False p q t := by
  obtain ⟨x, hxt, hxu, hreset, hports⟩ := h
  refine ⟨(inReset_of_alike hxu).trans hreset, ?_⟩
  exact decides_congr (alike_symm hxu) hxt id
    (finishRetake_two hpq ((retaking_congr (hports p)).trans hp) ((retaking_congr (hports q)).trans hq))

end Sys2Proof.Machine
end

section
/-! PROOFS. O8, no decision to retake outlasts the step that comes next, and the settling theorem (R70, log 31). -/
namespace Sys2Proof.Machine

open Sys2Proof

/-! ## Where decisions to retake come up -/

/-- A port that moved, but not into DECIDING, has no decision to retake. -/
theorem opensNone_of_moved {s t : State} (h : ∀ p, t.port p = s.port p ∨ (t.port p).stage ≠ .deciding) :
    s.opensNone t := by
  intro p hp
  obtain e | e := h p
  · rwa [retaking_congr e] at hp
  · simp [State.retaking, e] at hp

theorem worksBy_opensNone {s : State} {G : State → State} (hw : s.worksBy G) : s.opensNone (G s) := by
  have same (z : State) : s.opensNone (z.ported s.portA s.portB) := opensNone_of_ports fun p => by cases p <;> rfl
  cases hw with
  | beside z hz _ =>
    rw [show G s = z.ported s.portA s.portB from hz s.portA s.portB]
    exact same z
  | retaking z hz =>
    rw [show G s = (z.ported s.portA s.portB).retake from hz s.portA s.portB]
    exact opensNone_trans (same z) (retake_opensNone _)

theorem opensNone_of_same {s t : State} (ha : t.portA = s.portA) (hb : t.portB = s.portB) : s.opensNone t :=
  opensNone_of_ports (port_congr ha hb)

theorem handBack_opensNone (s : State) (p : Port) : s.opensNone (s.handBack p) := by
  refine opensNone_of_moved fun q => ?_
  by_cases hq : q = p
  · subst hq
    unfold State.handBack
    split
    · exact .inr (by cases q <;> simp [State.port, State.setPort])
    · exact .inl rfl
  · exact .inl (handBack_port hq)

theorem refuse_opensNone (s : State) (p : Port) (x : Txn) (why : Reason) : s.opensNone (s.refuse p x why) := by
  refine opensNone_of_moved fun q => ?_
  by_cases hq : q = p
  · exact .inr (by rw [hq, refuse_stage]; simp)
  · exact .inl (refuse_port hq _ _)

theorem portResponded_opensNone (s : State) (p : Port) : s.opensNone (s.portResponded p) :=
  worksBy_opensNone (G := (State.portResponded · p)) (portResponded_worksBy s p)

theorem refuseEntry_opensNone (s : State) (e : Entry) (why : Reason) : s.opensNone (s.refuseEntry e why) := by
  have hidle : s.opensNone (s.setEngine { s.engine with current := none }) := opensNone_of_same rfl rfl
  unfold State.refuseEntry
  dsimp only
  split
  · exact opensNone_trans hidle (opensNone_trans (refuse_opensNone _ _ _ _) (portResponded_opensNone _ _))
  · exact hidle

/-- An acceptance or a fall that was taken before decisions leaves none to retake (R17, R151). -/
theorem noneRetaking_of_shutsOut {c : Instr} {s t : State} (h : exec c s = .next t) (hshut : s.shutsOut t c) :
    t.noneRetaking := by
  have settled (u : State) (k : Option Frame) (b : Arbiter) : ((u.finishRetake.setFrame k).settle b).noneRetaking :=
    noneRetaking_of_opensNone (opensNone_trans (setFrame_opensNone _ _) (settle_opensNone _ _)) (finishRetake_finishes u)
  obtain ⟨rfl, hreset, hlow⟩ | ⟨code, f, hc, hcode, htakes, hframe⟩ := hshut
  · rw [exec_pfailFall hreset hlow] at h
    cases h
    exact noneRetaking_of_opensNone (settle_opensNone _ _) (finishRetake_finishes _)
  · obtain ⟨body, row⟩ := operationRow_of_shuts hc hcode
    rw [(accepted_of_frame row h htakes hframe).2]
    exact settled _ _ _

/-- Where a decision to retake comes up, an acceptance or a fall comes next, whatever is left of the queue (log 31). -/
def State.waitsFor (s t : State) (c : Instr) : Prop :=
  ∀ t' : State, t'.pins = t.pins → t'.frame = t.frame → t'.jc = t.jc → t'.fence = t.fence → t'.store = t.store →
    s.comesNext t' c

theorem Event_opens {s t : State} {c : Instr} (h : s.Event c t) : s.opensNone t ∨ s.waitsFor t c := by
  have settled {u : State} (hu : s.opensNone u) : s.opensNone (u.settle s.arb) ∨ s.waitsFor (u.settle s.arb) c :=
    .inl (opensNone_trans hu (settle_opensNone _ _))
  have answered {u : State} {k : Option Frame} (hu : s.opensNone u) :
      s.opensNone ((u.finishRetake.setFrame k).settle s.arb) ∨ s.waitsFor ((u.finishRetake.setFrame k).settle s.arb) c :=
    settled (opensNone_trans hu (opensNone_trans (atPorts_opensNone finishRetakeOne_opensNone u _)
      (setFrame_opensNone _ _)))
  have returned {x : State} {b : Bool} (hx : s.opensNone x)
      (hb : b = true → s.waitsFor ((x.retakeAtFence b).settle s.arb) c) :
      s.opensNone ((x.retakeAtFence b).settle s.arb) ∨ s.waitsFor ((x.retakeAtFence b).settle s.arb) c := by
    cases b with
    | true => exact .inr (hb rfl)
    | false =>
      rw [← retake_eq]
      exact settled (opensNone_trans hx (retake_opensNone x))
  have moved {p : Port} {u : State} (hu : ∀ q, q ≠ p → u.port q = s.port q) (hp : u.retaking p = false) :
      s.opensNone u := by
    intro q hq
    by_cases hqp : q = p
    · subst hqp
      rw [hp] at hq
      cases hq
    · rwa [retaking_congr (hu q hqp)] at hq
  have drains (st : JournalState) (op : LongOp) (ports : List Port) :
      s.opensNone ((s.accept st op).startDrain ports) :=
    opensNone_trans (opensNone_of_same rfl rfl)
      (worksBy_opensNone (G := (State.startDrain · ports)) (startDrain_worksBy (s.accept st op) ports))
  cases h with
  | begins c why cut x => exact .inl (opensNone_of_moved fun p => .inr (by cases p <;> exact nofun))
  | softResets cut =>
    refine .inl (opensNone_of_moved fun p => .inr ?_)
    rw [port_congr (s := (s.setPins { s.pins with mcsLow := false }).beginReset .soft cut) (by simp) (by simp) p]
    cases p <;> exact nofun
  | falls hreset =>
    exact settled (opensNone_trans (opensNone_of_same (by simp) (by simp))
      (atPorts_opensNone finishRetakeOne_opensNone _ _))
  | rises hreset hlow =>
    cases hmode : s.fence.mode with
    | latched =>
      rw [pfailRises_latched (by exact hmode)]
      exact settled (opensNone_of_same rfl rfl)
    | level =>
      rw [pfailRises_level (by exact hmode)]
      exact returned (opensNone_of_same rfl rfl) fun hb t' h1 h2 h3 h4 h5 =>
        comesNext_of_acceptance hb rfl (h1.trans (by simp)) (h2.trans (by simp)) (h3.trans (by simp)) (h4.trans (by simp))
          (h5.trans (by simp))
  | releases f k hreset hop hmode hlatched =>
    rw [retakeAtFence_setFrame]
    exact returned (opensNone_of_same rfl rfl) fun hb t' h1 _ _ _ _ => comesNext_of_fall hb hreset (h1.trans (by simp))
  | commits => exact answered (drains _ _ _)
  | commitsDamaged => exact answered (opensNone_of_same (by simp [State.accept]) (by simp [State.accept]))
  | aborts => exact answered (drains _ _ _)
  | abortsDamaged => exact answered (opensNone_of_same (by simp [State.accept]) (by simp [State.accept]))
  | formats => exact answered (drains _ _ _)
  | applies => exact answered (drains _ _ _)
  | presents p q hreset hidle =>
    exact .inl (moved (p := p) (fun q hq => (port_setPort s p q _).trans (if_neg hq.symm))
      (by simp [State.retaking, presentedTxn]))
  | decides p => exact settled (takeDecision_opensNone s p)
  | responds p =>
    exact .inl (moved (p := p) (fun q hq => (port_setPort s p q _).trans (if_neg hq.symm)) (by simp [State.retaking]))
  | readCompletes p merr op =>
    have hread : s.release.opensNone (s.release.hostReadDone p op merr) :=
      opensNone_of_moved fun q => (hostReadDone_ports s.release p q op merr).imp_right fun e => by simp [e]
    exact settled (opensNone_trans hread (portResponded_opensNone _ _))
  | writeCompletes p op =>
    have hwritten : (s.release.storeCells op).opensNone ((s.release.storeCells op).hostWriteDone p) :=
      opensNone_of_moved fun q => (hostWriteDone_ports (s.release.storeCells op) p q).imp_right fun e => by simp [e]
    exact settled (opensNone_trans hwritten (portResponded_opensNone _ _))
  | takesEntry e rest =>
    refine settled ?_
    unfold State.takeEntry
    split
    · exact opensNone_trans (opensNone_of_same rfl rfl) (handBack_opensNone _ _)
    · exact opensNone_of_same rfl rfl
  | lineRead merr op e =>
    refine settled ?_
    unfold State.lineReadDone
    split
    · exact refuseEntry_opensNone s.release e _
    · exact opensNone_of_same rfl rfl
  | reserves e image =>
    refine settled ?_
    unfold State.reserve
    split
    · exact opensNone_of_same rfl rfl
    · exact refuseEntry_opensNone s e _
  | inserts e n =>
    exact settled (opensNone_trans (opensNone_of_same (by simp) (by simp)) (handBack_opensNone _ _))
  | copyWritten op k seq =>
    exact settled (opensNone_trans (opensNone_of_same (by rfl) (by rfl)) (worksBy_opensNone (anchorDone_worksBy _)))
  | _ => exact .inl (opensNone_of_same (by simp) (by simp))

/-- No decision to retake outlasts the step that comes next. -/
theorem noneRetaking_step_step {s t u : State} (hs : s.noneRetaking) (ht : step s = .next t) (hu : step t = .next u) :
    t.noneRetaking ∨ u.noneRetaking := by
  unfold step at ht
  split at ht
  · cases ht
    exact .inl hs
  · next c rest _ =>
    have he := Event_of_exec ht
    have hpending : t.pending = rest := Event_pending he
    obtain h | h := Event_opens he
    · exact .inl (noneRetaking_of_opensNone h hs)
    · unfold step at hu
      split at hu
      · next hempty =>
        obtain ⟨a, -, hhead, -⟩ := h t rfl rfl rfl rfl rfl
        rw [show (s.setPending rest).pending = rest from rfl, ← hpending, hempty] at hhead
        cases hhead
      · next a rest' hqueue =>
        obtain ⟨a', u', hhead, hexec, hshut, -⟩ := h (t.setPending rest') rfl rfl rfl rfl rfl
        rw [show (s.setPending rest).pending = rest from rfl, ← hpending, hqueue, List.head?_cons,
          Option.some.injEq] at hhead
        subst hhead
        rw [hu, Host.Outcome.next.injEq] at hexec
        subst hexec
        exact .inr (noneRetaking_of_shutsOut hu hshut)

/-- Settles O8: each part compares the event with the same event in the part whose held writes are newly presented. -/
theorem aHeldWriteRetakesItsDecision : Obligations.AHeldWriteRetakesItsDecision := by
  refine ⟨fun c f merr k p q x s t hc hpq ht hends hnone hp hx => ⟨fun u v hq hu hv => ?_,
      fun y u v v' w w' hq hy hu hv hv' hw hw' => ?_⟩,
    fun c p q s t hpq ht hshut hnone hp => ⟨fun u v hq hu hv => ?_, fun u v v' w w' hq hu hv hv' hw hw' => ?_⟩,
    fun s t u => noneRetaking_step_step⟩
  · have hret := exec_returns hc (redecides_reopens hpq.symm (.inl hp) hq) hnone
      (redecides_noneRetaking hpq.symm (noneRetaking_port hnone q)) ht hu hends
    exact (returns_one hret hpq.symm hp (by simp [hx]) hq hv).imp agrees_of_alike (And.imp_right agrees_of_alike)
  · have hret := exec_returns hc (redecides_two_reopens hpq.symm (.inl hp) (.inl hq)) hnone
      (redecides_two_noneRetaking hpq.symm) ht hu hends
    obtain ⟨hreset, hdecides⟩ := returns_two hret hpq.symm hp (by simp [hx]) hq (by simp [hy])
    exact agrees_of_decides hreset hdecides hv hv' hw hw'
  · have hfin := shutsOut_finishes
      (redecides_reopens hpq.symm (.inr (deciding_of_retaking hp)) (noneHeld_port hnone q)) hnone
      (redecides_noneRetaking hpq.symm hq) hshut ht hu
    exact finishes_one hfin hpq.symm hp hq hv
  · have hfin := shutsOut_finishes
      (redecides_two_reopens hpq.symm (.inr (deciding_of_retaking hp)) (.inr (deciding_of_retaking hq))) hnone
      (redecides_two_noneRetaking hpq.symm) hshut ht hu
    obtain ⟨hreset, hdecides⟩ := finishes_two hfin hpq.symm hp hq
    exact (agrees_of_decides hreset hdecides hv hv' hw hw').imp_right (Or.resolve_right · (fun h => h.1))

end Sys2Proof.Machine
end
